-- ==== Sys2Proof/Word.lean ====
section
/-! DEFINITION. The plain words, indexes and fixed-size tables the model is written over: host bytes and
addresses, generations, the numbering of auditoriums, channels, rows, entries and parties, and the few
list helpers that every chapter uses. -/

namespace Sys2Proof

/-- One byte of host memory, of a timecode line or of an emitter lane. -/
abbrev Byte := BitVec 8

/-- A 32-bit register value, or a 32-bit host word. -/
abbrev Word := BitVec 32

/-- A 64-bit host address. -/
abbrev HostAddr := BitVec 64

/-- A 16-bit wrapping generation: attach generation, seek generation or run epoch. -/
abbrev Gen := BitVec 16

/-- An auditorium, 0..15. -/
abbrev Aud := Fin 16

/-- A channel of an auditorium, 0..3. -/
abbrev Chan := Fin 4

/-- A row of a page, 0..3. -/
abbrev RowIx := Fin 4

/-- An entry of a cue window, 0..63. -/
abbrev EntryIx := Fin 64

/-- A handle of a text pool block, 0..511. -/
abbrev BlockIx := Fin 512

/-- A party of the Exchange Unit: 0..15 for the slots, 16 for the site (chapter 10, introduction). -/
abbrev Party := Fin 17

/-- The party that is the slot of auditorium `a`. -/
def Party.slot (a : Aud) : Party := a.castSucc

/-- The party that is the site block. -/
def Party.site : Party := 16

/-- The auditorium whose slot the party is, or none for the site. -/
def Party.aud? (p : Party) : Option Aud :=
  if h : p.val < 16 then some ⟨p.val, h⟩ else none

/-- Every member of a fixed-size table changed by one function. -/
def vmap {α β : Type} {n : Nat} (f : α → β) (v : Vector α n) : Vector β n :=
  ⟨⟨v.toList.map f⟩, by simp⟩

/-- A fixed-size table given member by member. -/
def vofFn {α : Type} {n : Nat} (f : Fin n → α) : Vector α n :=
  ⟨⟨(List.finRange n).map f⟩, by simp⟩

/-- The least whole number not less than `x / d` (the conventions' ceil). -/
def ceilDiv (x d : Nat) : Nat := (x + (d - 1)) / d

/-- `x` put into a list behind every member that may stand before it. -/
def insertBy {α : Type} (before : α → α → Bool) (x : α) : List α → List α
  | [] => [x]
  | y :: ys => if before x y then x :: y :: ys else y :: insertBy before x ys

/-- A list put into the order that `before` gives, by insertion. -/
def sortBy {α : Type} (before : α → α → Bool) : List α → List α
  | [] => []
  | x :: xs => insertBy before x (sortBy before xs)

/-- The (start, ordinal) order of the conventions: starts first, then ordinals. -/
def keyBefore (x y : Nat × Nat) : Bool :=
  decide (x.1 < y.1) || (decide (x.1 = y.1) && decide (x.2 < y.2))

end Sys2Proof
end

