-- ==== Sys2Proof/Syntax.lean ====
section
/-! DEFINITION. The commands of the part: one constructor for each row of spec/opcode_table.json, with the
row's operands. A row that is an event of one context names its auditorium, party, channel or block; a row
that the outside brings in (a register write, a line byte, an uplink message, a bus answer) carries its value.
An event that one block hands to another (an order, a ready, a leave, a departure) waits in State, and the
row's command takes the oldest one. -/

namespace Sys2Proof

/-- How the bus answers a read (R82). -/
inductive BusAnswer where
  /-- The bytes read. -/
  | data (bytes : List Byte)
  /-- The bus answers with an error. -/
  | busError
  deriving DecidableEq, Repr

/-- A block that can hold refused requests (R79). -/
inductive OfferBlock where
  | window (a : Aud)
  | programme (a : Aud)
  | streamer (a : Aud)
  | exchange
  deriving DecidableEq, Repr

/-- The register locations whose write has no behaviour of its own (R186). -/
inductive PlainRegister where
  | kident
  | kxbaseLow
  | kxbaseHigh
  deriving DecidableEq, Repr

/-- One command: a row of the operation table. -/
inductive Instr where
  /-- POWER_ON (R188). -/
  | powerOn
  /-- ENABLE: a write to KCTL with bit 0 set (R181, R186). -/
  | enable (value : Word)
  /-- DISABLE: a write to KCTL with bit 0 clear (R187, R186). -/
  | disable (value : Word)
  /-- KCALL: a write to KCALL (R183). -/
  | kcall (value : Word)
  /-- KNOTE_CLEAR: a write to KNOTE (R185). -/
  | knoteClear (value : Word)
  /-- KNOTEMASK_WRITE: a write to KNOTEMASK (R186). -/
  | knotemaskWrite (value : Word)
  /-- REGISTER_WRITE: a write to KIDENT or to a half of KXBASE (R186). -/
  | registerWrite (reg : PlainRegister) (value : Word)
  /-- TIMECODE_WORD_ARRIVAL: the oldest framed word of the line is delivered (R6). -/
  | timecodeWordArrival (a : Aud)
  /-- TRACKER_LOCAL_TICK (R10). -/
  | trackerLocalTick (a : Aud)
  /-- LOSS_EXPIRY: the local tick at which the loss timer expires (R23). -/
  | lossExpiry (a : Aud)
  /-- HOLD_EXPIRY: the local tick at which the hold timer expires (R24). -/
  | holdExpiry (a : Aud)
  /-- WINDOW_SEEK_ORDER (R67). -/
  | windowSeekOrder (a : Aud)
  /-- TABLE_READY (R68). -/
  | tableReady (a : Aud)
  /-- RELEASE_SEEK_ORDER (R109). -/
  | releaseSeekOrder (a : Aud)
  /-- RELEASE_SEEK_HAND_OVER (R110). -/
  | releaseSeekHandOver (a : Aud)
  /-- RELEASE_CATCH_UP_ORDER (R100). -/
  | releaseCatchUpOrder (a : Aud)
  /-- RELEASE_HOLD_ORDER (R111). -/
  | releaseHoldOrder (a : Aud)
  /-- RELEASE_TICK_CHECK (R99). -/
  | releaseTickCheck (a : Aud)
  /-- RELEASE_READY_CHECK (R99). -/
  | releaseReadyCheck (a : Aud)
  /-- STREAM_SEEK_ORDER (R127). -/
  | streamSeekOrder (a : Aud)
  /-- STREAM_SEEK_HAND_OVER (R127). -/
  | streamSeekHandOver (a : Aud)
  /-- STREAM_CATCH_UP_ORDER (R125). -/
  | streamCatchUpOrder (a : Aud)
  /-- STREAM_HOLD_ORDER (R128). -/
  | streamHoldOrder (a : Aud)
  /-- STREAM_TICK_CHECK (R117). -/
  | streamTickCheck (a : Aud)
  /-- STREAM_READY_OPEN (R117). -/
  | streamReadyOpen (a : Aud)
  /-- PACKET_REQUEST (R121). -/
  | packetRequest (a : Aud) (c : Chan)
  /-- TABLE_BATCH_REQUEST (R120). -/
  | tableBatchRequest (a : Aud) (c : Chan)
  /-- WINDOW_LEAVE (R66). -/
  | windowLeave (a : Aud)
  /-- REFILL (R56). -/
  | refill (a : Aud)
  /-- RETIREMENT (R46). -/
  | retirement (a : Aud)
  /-- REQUEST_ISSUE (R80). -/
  | requestIssue
  /-- OFFER_AFTER_DEPARTURE (R79). -/
  | offerAfterDeparture (b : OfferBlock)
  /-- READ_COMPLETION: the bus answers the read it carries under `tag` (R82). -/
  | readCompletion (tag : Nat) (answer : BusAnswer)
  /-- READ_TIMEOUT: the read timer of the read `tag` reaches 2 ms (R82). -/
  | readTimeout (tag : Nat)
  /-- POOL_RETRY_ROUND (R88). -/
  | poolRetryRound
  /-- DRAINED (R176). -/
  | drained (a : Aud)
  /-- SCAN_TIMER_EXPIRY (R182). -/
  | scanTimerExpiry (p : Party)
  /-- MIRROR_TIMER_EXPIRY (R184). -/
  | mirrorTimerExpiry (p : Party)
  /-- LANE_FRAME (R136). -/
  | laneFrame (a : Aud)
  /-- LANE_SWEEP (R135, R149). -/
  | laneSweep (a : Aud)
  /-- DEVICE_SWEEP (R164). -/
  | deviceSweep
  /-- INCIDENT_SWEEP (R194). -/
  | incidentSweep
  /-- UPLINK_ARRIVAL: the emitter delivers one 8-byte message (R147). -/
  | uplinkArrival (a : Aud) (message : Vector Byte 8)
  /-- JOIN: the Device Table takes the next message, a JOIN (R157). -/
  | join
  /-- ALIVE: the Device Table takes the next message, an ALIVE (R160). -/
  | alive
  /-- REPEAT: the Device Table takes the next message, a REPEAT (R161). -/
  | repeatRows
  /-- LEAVE: the Device Table takes the next message, a LEAVE (R162). -/
  | leave
  /-- TIMECODE_LINE_BYTE: a byte arrives on the auditorium's timecode line (R5). -/
  | timecodeLineByte (a : Aud) (byte : Byte)
  deriving DecidableEq, Repr

end Sys2Proof
end

