-- ==== Sys2Proof/Decode.lean ====
section
/-! DEFINITION. The operation table gives none of its rows any bits (no row has a pattern, and the reader's
`fields` are all empty), so no word spells a command: commands reach the part as events, not as encoded
words. -/

namespace Sys2Proof

/-- The command that a word spells by the table's bits: none, for every word, since no row of
spec/opcode_table.json carries bits. -/
def decodeTableWord (_nbits _w : Nat) : Option Instr := none

end Sys2Proof
end

