-- ==== Sys2Proof/Config.lean ====
section
/-! DEFINITION. What the manual fixes once for the whole part: the identity word, the last position, and the
lengths of the part's lists and timers; and the one value that the manual leaves open. -/

namespace Sys2Proof.Config

/-- The last show position, 24 hours less one tick (R1). -/
def maxPosition : Nat := 103679999

/-- KIDENT: family 0x5C, part 0x1604, revision 0x01 (R186). -/
def kident : Word := 0x5C160401#32

/-- The sync byte of a timecode word (R190). -/
def syncByte : Byte := 0xA5#8

/-- The longest life of any cue, in ticks (R40, R44). -/
def longestLife : Nat := 36000

/-- The queue's places (R78). -/
def queuePlaces : Nat := 32

/-- The places of one party in the queue (R78). -/
def partyPlaces : Nat := 4

/-- The reads the bus carries at once (R80). -/
def flightPlaces : Nat := 4

/-- The read timer's limit of 2 ms, in units of 1/6000 s (R82); one local tick is 5 such units. -/
def readTimeout : Nat := 12

/-- One local tick, in the read timer's units of 1/6000 s (R1). -/
def readTimerPerTick : Nat := 5

/-- The period of a party's scan timer, in local ticks (R181). -/
def scanPeriod : Nat := 120

/-- The period of a party's mirror timer, in local ticks (R184). -/
def mirrorPeriod : Nat := 300

/-- Code (low byte) and attribute (high byte) of a cell, by the cue's ordinal and the cell's index, of a text that has no
block to lie in: a free value, which nothing constrains (log 42). -/
opaque absentCell : (ordinal cell : Nat) → BitVec 16

end Sys2Proof.Config
end

