-- ==== Sys2Proof/Machine/State.lean ====
section
/-! DEFINITION. The state of the Kelbur 1604, block by block, and its value right after reset. Every field is
plain data. Sixteen-fold state is one `Auditorium` record per auditorium; shared blocks (Fetch Engine, Text
Pool, Device Table, Exchange Unit, Incident Unit, registers) stand beside them. An event that one block hands
to another and that the other has not taken yet waits in the taker's own list. -/

namespace Sys2Proof.Machine

/-! ### Position Tracker (chapter 1) -/

/-- The tracker state (R2). -/
inductive TrackerState where
  | idle | acquire | locked | freewheel | paused | held
  deriving DecidableEq, Repr

/-- The show position estimate: whole ticks and a fraction in units of 2^-16 tick (R2). -/
structure Est where
  ticks : Nat
  frac : Nat
  deriving DecidableEq, Repr

/-- An order the tracker hands on (R27). -/
inductive TrackerOrder where
  | catchUp (oldP newP : Nat)
  | seek (target : Nat) (gen : Gen)
  | hold
  deriving DecidableEq, Repr

/-- The tracker context of one auditorium (R2). A timer is none while it is stopped. -/
structure Tracker where
  state : TrackerState
  est : Est
  trim : Int
  agree : Nat
  lastTc : Option Nat
  repeats : Nat
  lossSpan : Nat
  lossTimer : Option Nat
  holdTimer : Option Nat
  seekGen : Gen
  tcOffset : Int
  freewheelLimit : Nat
  catchUpLimit : Nat
  deriving DecidableEq, Repr

/-- The line receiver of one timecode line (R5): the bytes of the word in progress, and the framed words
that the tracker has not taken yet, oldest first. -/
structure LineReceiver where
  partialWord : List Byte
  framed : List (Vector Byte 8)
  deriving DecidableEq, Repr

/-! ### Programme Unit (chapter 2) -/

/-- Progress of the segment table (R30). -/
inductive TableState where
  | empty | loading | complete | ended
  deriving DecidableEq, Repr

/-- A segment entry of the table (R30): starts in edit units and in ticks. -/
structure Segment where
  address : HostAddr
  count : Nat
  firstStart : Nat
  lastStart : Nat
  firstTicks : Nat
  lastTicks : Nat
  deriving DecidableEq, Repr

/-! ### Fetch requests (chapter 4) -/

/-- The eight purposes of a request (R76). -/
inductive Purpose where
  | directory | mirrorWrite | segmentDesc | cueRecord | probe | text | audioList | audioPacket
  deriving DecidableEq, Repr

/-- The block a completion is delivered to and, within it, the entry or stream context (R76). A stream's
batch names its first index and a packet its index. -/
inductive Requester where
  | exchange
  | programme
  | windowEntry (e : EntryIx)
  | windowSearch
  | streamBatch (c : Chan) (firstIndex : Nat)
  | streamPacket (c : Chan) (index : Nat)
  deriving DecidableEq, Repr

/-- What the requester's class rule reads when the request enters the queue (R58, R77, R120, R121). -/
inductive ClassTerms where
  /-- A class that does not depend on the position. -/
  | fixed (cls : Fin 4)
  /-- A cue record: by the reach. -/
  | record
  /-- A text read: by the entry's start. -/
  | near (start : Nat)
  /-- A table head: by the presentation of its first packet, and by the entry's start. -/
  | tableHead (presentation start : Nat)
  /-- A table batch: by the presentation of its first index. -/
  | batch (presentation : Nat)
  /-- A packet: by its presentation. -/
  | packet (presentation : Nat)
  deriving DecidableEq, Repr

/-- A request (R76). The class is fixed on entry to the queue and is kept beside it there. -/
structure Request where
  party : Party
  purpose : Purpose
  requester : Requester
  ordinal : Option Nat
  attachTag : Option Gen
  seekTag : Option Gen
  epochTag : Gen
  address : HostAddr
  length : Nat
  terms : ClassTerms
  deriving DecidableEq, Repr

/-- A request in the queue, with the class it entered with (R77). -/
structure QueuedRequest where
  request : Request
  cls : Fin 4
  deriving DecidableEq, Repr

/-- A read in flight (R75): the bus tag the model names it by, and its read timer in units of 1/6000 s. -/
structure Flight where
  tag : Nat
  request : Request
  timer : Nat
  deriving DecidableEq, Repr

/-- A posted write as it went out on the bus (R81). -/
structure PostedWrite where
  address : HostAddr
  bytes : List Byte
  deriving DecidableEq, Repr

/-- The one SEGMENT_DESC request of an auditorium (R30, R33). -/
inductive BatchState where
  | none
  | outstanding
  | waiting (r : Request)
  deriving DecidableEq, Repr

/-- The programme context of one auditorium (R30). `readyHanded` says that the table ready event of this
attach has been handed (R36); `departures` holds the departure events not taken yet (R79). -/
structure Programme where
  tableState : TableState
  reference : HostAddr
  segmentCount : Nat
  editRate : Nat
  table : List Segment
  loadCursor : Nat
  batch : BatchState
  retireMark : Nat
  keepBack : Nat
  orderFloor : Option Nat
  readyHanded : Bool
  departures : List Party
  deriving DecidableEq, Repr

/-! ### Cue Window (chapter 3) -/

/-- The kind of a cue (R39). -/
inductive CueKind where
  | text | clear | audio
  deriving DecidableEq, Repr

/-- A cue record's fields as encoded (R39, R190); the kind is none where the code names no kind. -/
structure CueRecord where
  start : Nat
  duration : Nat
  kind : Option CueKind
  trackMask : BitVec 4
  classFlags : BitVec 4
  firstRow : RowIx
  lines : Nat
  reference : HostAddr
  count : Nat
  deriving DecidableEq, Repr

/-- A packet descriptor of a packet table (R190). -/
structure PacketDesc where
  address : HostAddr
  length : Nat
  deriving DecidableEq, Repr

/-- A judged entry's stage (R52). -/
inductive Stage where
  | loading | ready | active
  deriving DecidableEq, Repr

/-- What a judged entry holds (R52). -/
structure EntryCue where
  ordinal : Nat
  start : Nat
  finish : Nat
  kind : CueKind
  trackMask : BitVec 4
  classFlags : BitVec 4
  firstRow : RowIx
  lines : Nat
  reference : HostAddr
  count : Nat
  blocks : List BlockIx
  head : Nat
  tableHead : List PacketDesc
  resumed : Bool
  catchUp : Bool
  deriving DecidableEq, Repr

/-- A window entry (R52): FREE; FETCHING, with the record that has arrived and waits for its turn to be
judged (R41), if any; or LOADING, READY or ACTIVE with the cue's fields. -/
inductive Entry where
  | free
  | fetching (ordinal : Nat) (address : HostAddr) (record : Option CueRecord)
  | judged (stage : Stage) (cue : EntryCue)
  deriving DecidableEq, Repr

/-- The window state (R51). -/
inductive WindowState where
  | stopped | waiting | seeking | serving
  deriving DecidableEq, Repr

/-- The search record (R51). `probe` is the record index of the probe outstanding; `awaitsTable` says that
the target is not fixed yet (R68), and then the later fields are not used. -/
structure Search where
  target : Nat
  gen : Gen
  awaitsTable : Bool
  searchTarget : Nat
  segment : Nat
  lo : Nat
  hi : Nat
  probe : Option Nat
  deriving DecidableEq, Repr

/-- A seek order as the window takes it (R27). -/
structure SeekOrder where
  target : Nat
  gen : Gen
  deriving DecidableEq, Repr

/-- A leave event handed to the window (R66). -/
structure LeaveEvent where
  entry : EntryIx
  ordinal : Nat
  deriving DecidableEq, Repr

/-- The window context of one auditorium (R51), with the events handed to it and not taken yet: seek
orders (R27), leaves (R66), the table ready event (R36) and departures (R79). `readyTaken` says that the
table ready event has been taken since attach (R68). -/
structure Window where
  state : WindowState
  entries : Vector Entry 64
  cursor : Option (Nat × Nat)
  rePlacing : Bool
  resumeBound : Option Nat
  search : Option Search
  offers : List Request
  poolWait : List EntryIx
  readyTaken : Bool
  readyEvent : Bool
  orders : List SeekOrder
  leaves : List LeaveEvent
  departures : List Party
  deriving DecidableEq, Repr

/-! ### Text Pool (chapter 4) -/

/-- A host cell: code and attribute (R97). -/
structure HostCell where
  code : Byte
  attr : Byte
  deriving DecidableEq, Repr

/-- A pool block (R85): its holder, if any, and its 16 cells. -/
structure PoolBlock where
  holder : Option (Aud × EntryIx)
  cells : Vector HostCell 16
  deriving DecidableEq, Repr

/-- The text pool (R85). `roundsOwed` counts the retry rounds started and not yet taken (R87). -/
structure Pool where
  blocks : Vector PoolBlock 512
  reserveHeld : Vector Nat 16
  sharedHeld : Vector Nat 16
  retryPointer : Aud
  roundsOwed : Nat
  deriving DecidableEq, Repr

/-- The Fetch Engine (R75). `drained` holds the drained events handed and not taken (R84), `nextTag` is the
model's own bus tag for the next read issued, and `lastWrite` the write posted last (R81). -/
structure FetchEngine where
  queue : List QueuedRequest
  inFlight : List Flight
  queuedCount : Vector Nat 17
  programmeReads : Vector Nat 16
  attachGen : Vector Gen 16
  runEpoch : Gen
  drained : Vector Bool 16
  nextTag : Nat
  lastWrite : Option PostedWrite
  deriving DecidableEq, Repr

/-! ### Release Unit (chapter 5) -/

/-- The kind of a channel (R91). -/
inductive ChannelKind where
  | off | text | audio
  deriving DecidableEq, Repr

/-- The glyph mode of a channel (R91). -/
inductive GlyphMode where
  | g256 | g512
  deriving DecidableEq, Repr

/-- A channel descriptor (R91). Class flags are bit fields: bit 0 DIALOGUE, 1 SOUND, 2 MUSIC, 3 SPEAKER. -/
structure ChannelDescriptor where
  kind : ChannelKind
  track : Fin 4
  classMatch : BitVec 4
  classCare : BitVec 4
  glyphMode : GlyphMode
  fgEnable : Bool
  bgEnable : Bool
  flashEnable : Bool
  fgValue : BitVec 4
  bgValue : BitVec 3
  flashValue : Bool
  language : BitVec 24
  deriving DecidableEq, Repr

/-- A decoded cell of a page row (R95). -/
structure Cell where
  glyph : BitVec 9
  fg : BitVec 4
  bg : BitVec 3
  flash : Bool
  deriving DecidableEq, Repr

/-- The owner of a row: the cue whose line it shows (R95). -/
structure RowOwner where
  ordinal : Nat
  start : Nat
  deriving DecidableEq, Repr

/-- A page row (R95). -/
structure Row where
  cells : Vector Cell 40
  owner : Option RowOwner
  version : BitVec 8
  deriving DecidableEq, Repr

/-- A seek hand-over of the window (R110, R127): the generation and the ordinals of the entries ended. -/
structure HandOver where
  gen : Gen
  ordinals : List Nat
  deriving DecidableEq, Repr

/-- The release context of one auditorium (R91), with the events handed to it and not taken yet: tracker
orders in the order they were issued (R27), seek hand-overs (R110) and ready events (R66). -/
structure Release where
  channels : Vector ChannelDescriptor 4
  pages : Vector (Vector Row 4) 4
  releasePoint : Nat
  takenGen : Gen
  windowGen : Gen
  leaving : List Nat
  orders : List TrackerOrder
  handOvers : List HandOver
  readies : List Nat
  deriving DecidableEq, Repr

/-! ### Description Streamer (chapter 6) -/

/-- A carriage: one cue on one channel (R115). `stop` is the index after the last one, so the last index
of R115 is `stop - 1` and a carriage cut to nothing has `stop` at or below `first`. -/
structure Carriage where
  ordinal : Nat
  entry : EntryIx
  start : Nat
  first : Nat
  stop : Nat
  quiet : Bool
  lateReported : Bool
  deriving DecidableEq, Repr

/-- A packet entry (R115): AWAITED while `body` is none, HELD with the packet's bytes once they are there. -/
structure PacketEntry where
  ordinal : Nat
  index : Nat
  presentation : Nat
  body : Option (List Byte)
  deriving DecidableEq, Repr

/-- A stream context (R115). The fetch carriage is named by its ordinal. -/
structure Stream where
  cues : List Carriage
  fetch : Option Nat
  nextIndex : Nat
  cacheBase : Nat
  cache : List PacketDesc
  batchOut : Bool
  queue : List PacketEntry
  deriving DecidableEq, Repr

/-- The streamer's state for one auditorium (R115), with the events handed to it and not taken yet. -/
structure Streamer where
  streams : Vector Stream 4
  bufferCount : Nat
  offers : List Request
  takenGen : Gen
  windowGen : Gen
  orders : List TrackerOrder
  handOvers : List HandOver
  readies : List Nat
  departures : List Party
  deriving DecidableEq, Repr

/-! ### Lane Controller (chapter 7) -/

/-- The lane state (R134). -/
inductive LaneState where
  | off | sparse | full
  deriving DecidableEq, Repr

/-- The show state of a beacon (R138). -/
inductive ShowState where
  | stopped | running | paused | held
  deriving DecidableEq, Repr

/-- A channel entry of a beacon (R138). -/
structure BeaconChannel where
  kind : ChannelKind
  track : Fin 4
  glyphMode : GlyphMode
  active : Bool
  language : BitVec 24
  deriving DecidableEq, Repr

/-- A beacon (R138). -/
structure Beacon where
  auditorium : Aud
  frameNumber : BitVec 16
  showState : ShowState
  sparse : Bool
  position : Nat
  channels : Vector BeaconChannel 4
  deriving DecidableEq, Repr

/-- The result of a reply (R132). -/
inductive ReplyResult where
  | accepted | channelClosed | tableFull
  deriving DecidableEq, Repr

/-- A reply to a device (R132). -/
structure Reply where
  device : BitVec 32
  result : ReplyResult
  channelArg : Byte
  deriving DecidableEq, Repr

/-- The content of a frame slot (R137). -/
inductive FrameSlot where
  | empty
  | beacon (b : Beacon)
  | row (c : Chan) (r : RowIx) (version : BitVec 8) (cells : Vector Cell 40)
  | audio (c : Chan) (ordinalLow : BitVec 16) (index presentation : Nat) (bytes : List Byte)
  | reply (r : Reply) (versions : Vector (BitVec 8) 4)
  deriving DecidableEq, Repr

/-- The kind of an uplink message (R147). -/
inductive UplinkKind where
  | join | alive | repeatRows | leave
  deriving DecidableEq, Repr

/-- An uplink message as the intake holds it (R147). -/
structure UplinkMessage where
  device : BitVec 32
  kind : UplinkKind
  channelArg : Byte
  deriving DecidableEq, Repr

/-- The lane context of one auditorium (R132). `onAir` is the frame that went on the air at the last frame
event, or none where nothing was sent. -/
structure Lane where
  state : LaneState
  frameNumber : BitVec 16
  held : Option (List FrameSlot)
  onAir : Option (List FrameSlot)
  zeroAudience : Nat
  dirty : List (Chan × RowIx)
  forced : Vector (Vector Bool 4) 4
  replies : List Reply
  refresh : Fin 16
  intake : List UplinkMessage
  overflow : Bool
  deriving DecidableEq, Repr

/-! ### Device Table (chapter 8) -/

/-- The state of a known device's entry (R151): ACTIVE, or QUIET with its cause. -/
inductive DeviceStatus where
  | active | quietSilent | quietClosed
  deriving DecidableEq, Repr

/-- A known device (R151). -/
structure Device where
  id : BitVec 32
  auditorium : Aud
  channel : Chan
  silence : Nat
  status : DeviceStatus
  deriving DecidableEq, Repr

/-- The Device Table (R151); an entry that is none is FREE. -/
structure DeviceTable where
  entries : Vector (Option Device) 1024
  audience : Vector (Vector Nat 4) 16
  quietThreshold : Nat
  releaseThreshold : Nat
  intakePointer : Aud
  deriving DecidableEq, Repr

/-! ### Auditorium lifecycle and exchange (chapters 9 and 10) -/

/-- The auditorium state (R169). -/
inductive AudState where
  | off | standby | show | closing
  deriving DecidableEq, Repr

/-- A requested state (R170). -/
inductive RequestedState where
  | off | standby | show
  deriving DecidableEq, Repr

/-- A request of a slot: every field of the host half as taken (R169, R190), its request generation word among
them, before any clamp. A channel's
`kindBad` says that its kind code names no kind (R93), and `stateBad` that the requested state code names
none and was taken as STANDBY (R171). -/
structure SlotRequest where
  generation : Word
  requested : RequestedState
  stateBad : Bool
  editRate : Nat
  segmentCount : Nat
  reference : HostAddr
  tcOffset : Int
  freewheelLimit : Nat
  catchUpLimit : Nat
  keepBack : Nat
  acknowledge : BitVec 16
  channels : Vector ChannelDescriptor 4
  kindBad : Vector Bool 4
  deriving DecidableEq, Repr

/-- A party's one DIRECTORY read (R181). -/
inductive DirectoryRead where
  | none | scan | take
  deriving DecidableEq, Repr

/-- A party's one MIRROR_WRITE (R181). -/
inductive MirrorWrite where
  | none | waiting | queued
  deriving DecidableEq, Repr

/-- The exchange context of one party (R181). -/
structure ExchangeContext where
  takenGen : Option Word
  scanTimer : Option Nat
  directoryRead : DirectoryRead
  callPending : Bool
  stamp : Word
  mirrorWrite : MirrorWrite
  mirrorTimer : Option Nat
  noticesOwed : Bool
  deriving DecidableEq, Repr

/-- The Exchange Unit's contexts and its offer list (R181), with its departure events not taken yet. -/
structure ExchangeUnit where
  parties : Vector ExchangeContext 17
  offers : List Request
  departures : List Party
  deriving DecidableEq, Repr

/-- The registers that hold something (R186). KIDENT is constant and KCALL reads as 0. -/
structure Registers where
  enable : Bool
  kxbase : HostAddr
  knote : BitVec 17
  knotemask : BitVec 17
  deriving DecidableEq, Repr

/-! ### Incident Unit (chapter 11) -/

/-- The severity of a report (R191). -/
inductive Severity where
  | minor | major
  deriving DecidableEq, Repr

/-- The thirteen codes (R190); `clear` is the code field of a record never written. -/
inductive IncidentCode where
  | clear | configClamped | configBad | segmentBad | cueBad | cueOrder | fetchFault | textLate
  | cueMissed | audioLate | audioFault | retiredSeek | uplinkOverflow | deviceTableFull
  deriving DecidableEq, Repr

/-- An incident record (R191) and the party's count changed flag (R193). -/
structure IncidentRecord where
  valid : Bool
  overflow : Bool
  severity : Severity
  code : IncidentCode
  addressValid : Bool
  address : HostAddr
  ordinalValid : Bool
  ordinal : Nat
  position : Nat
  sequence : BitVec 16
  minorCount : Nat
  countChanged : Bool
  deriving DecidableEq, Repr

/-- The sixteen counters of an auditorium (R196), in the order of their index k. -/
inductive Counter where
  | wordsDiscarded | slips | seeks | cuesReleased | late | missed | superseded | fieldsClamped
  | packetsSent | packetsLate | packetsUnheard | packetsPreempted | streamsCompleted
  | uplinkDiscarded | stray | repliesDiscarded
  deriving DecidableEq, Repr

/-! ### The machine -/

/-- Everything the part holds once for each auditorium. -/
structure Auditorium where
  line : LineReceiver
  tracker : Tracker
  programme : Programme
  window : Window
  release : Release
  streamer : Streamer
  lane : Lane
  state : AudState
  pendingRequest : Option SlotRequest
  counters : Vector Word 16
  deriving DecidableEq, Repr

/-- The whole part, with the queue of commands that wait, first in, first out. -/
structure State where
  regs : Registers
  fetch : FetchEngine
  pool : Pool
  auds : Vector Auditorium 16
  devices : DeviceTable
  exchange : ExchangeUnit
  incidents : Vector IncidentRecord 17
  pending : List Instr
  deriving DecidableEq, Repr

/-- The machine stops with a fault: there is none. Every event of the part has an effect that the manual
gives, and a read that fails on the bus is an ordinary completion (R82), so nothing raises a fault. Safe. -/
inductive Fault where
  deriving DecidableEq, Repr

/-- A command without a meaning. -/
inductive Refusal where
  /-- A row that the model gives no meaning: raised by no arm of exec as it stands. Safe. -/
  | notModelled (mnemonic : String)
  deriving DecidableEq, Repr

/-! ### Reset values -/

/-- The tracker after disable and after power-on (R3). -/
def Tracker.reset : Tracker where
  state := .idle
  est := ⟨0, 0⟩
  trim := 0
  agree := 1
  lastTc := none
  repeats := 0
  lossSpan := 150
  lossTimer := none
  holdTimer := none
  seekGen := 0
  tcOffset := 0
  freewheelLimit := 2400
  catchUpLimit := 240

/-- The line receiver with no word in progress. DESIGN CHOICE (log 3): the manual gives no value. -/
def LineReceiver.reset : LineReceiver := ⟨[], []⟩

/-- The programme context after disable and after power-on (R31). -/
def Programme.reset : Programme where
  tableState := .empty
  reference := 0
  segmentCount := 0
  editRate := 0
  table := []
  loadCursor := 0
  batch := .none
  retireMark := 0
  keepBack := 72000
  orderFloor := none
  readyHanded := false
  departures := []

/-- The window context after disable and after power-on (R54). -/
def Window.reset : Window where
  state := .stopped
  entries := Vector.replicate 64 .free
  cursor := none
  rePlacing := false
  resumeBound := none
  search := none
  offers := []
  poolWait := []
  readyTaken := false
  readyEvent := false
  orders := []
  leaves := []
  departures := []

/-- A channel descriptor after disable and after power-on (R92). The blank language code is three zero
bytes: DESIGN CHOICE (log 4). -/
def ChannelDescriptor.reset : ChannelDescriptor where
  kind := .off
  track := 0
  classMatch := 0
  classCare := 0
  glyphMode := .g256
  fgEnable := false
  bgEnable := false
  flashEnable := false
  fgValue := 0
  bgValue := 0
  flashValue := false
  language := 0

/-- The cell of a blank row (R95). -/
def Cell.blank : Cell := ⟨32, 7, 0, false⟩

/-- The cells of a blank row (R95). -/
def Row.blankCells : Vector Cell 40 := Vector.replicate 40 Cell.blank

/-- A blank row with version 0 (R92). -/
def Row.reset : Row := ⟨Row.blankCells, none, 0⟩

/-- The release context after disable and after power-on (R92). -/
def Release.reset : Release where
  channels := Vector.replicate 4 ChannelDescriptor.reset
  pages := Vector.replicate 4 (Vector.replicate 4 Row.reset)
  releasePoint := 0
  takenGen := 0
  windowGen := 0
  leaving := []
  orders := []
  handOvers := []
  readies := []

/-- An empty stream context (R116). -/
def Stream.reset : Stream where
  cues := []
  fetch := none
  nextIndex := 0
  cacheBase := 0
  cache := []
  batchOut := false
  queue := []

/-- The streamer's state after disable and after power-on (R116). -/
def Streamer.reset : Streamer where
  streams := Vector.replicate 4 Stream.reset
  bufferCount := 0
  offers := []
  takenGen := 0
  windowGen := 0
  orders := []
  handOvers := []
  readies := []
  departures := []

/-- The lane context after disable and after power-on (R133). -/
def Lane.reset : Lane where
  state := .off
  frameNumber := 65535
  held := none
  onAir := none
  zeroAudience := 0
  dirty := []
  forced := Vector.replicate 4 (Vector.replicate 4 false)
  replies := []
  refresh := 0
  intake := []
  overflow := false

/-- An auditorium after power-on (R3, R31, R54, R92, R116, R133, R169, R196). -/
def Auditorium.reset : Auditorium where
  line := .reset
  tracker := .reset
  programme := .reset
  window := .reset
  release := .reset
  streamer := .reset
  lane := .reset
  state := .off
  pendingRequest := none
  counters := Vector.replicate 16 0

/-- The Fetch Engine after power-on (R75). -/
def FetchEngine.reset : FetchEngine where
  queue := []
  inFlight := []
  queuedCount := Vector.replicate 17 0
  programmeReads := Vector.replicate 16 0
  attachGen := Vector.replicate 16 0
  runEpoch := 0
  drained := Vector.replicate 16 false
  nextTag := 0
  lastWrite := none

/-- The pool after power-on (R85). The cells hold zeros: DESIGN CHOICE (log 5), never read before they are
written. -/
def Pool.reset : Pool where
  blocks := Vector.replicate 512 ⟨none, Vector.replicate 16 ⟨0, 0⟩⟩
  reserveHeld := Vector.replicate 16 0
  sharedHeld := Vector.replicate 16 0
  retryPointer := 15
  roundsOwed := 0

/-- The Device Table after disable and after power-on (R152). -/
def DeviceTable.reset : DeviceTable where
  entries := Vector.replicate 1024 none
  audience := Vector.replicate 16 (Vector.replicate 4 0)
  quietThreshold := 10
  releaseThreshold := 120
  intakePointer := 15

/-- An exchange context after disable and after power-on (R181). -/
def ExchangeContext.reset : ExchangeContext where
  takenGen := none
  scanTimer := none
  directoryRead := .none
  callPending := false
  stamp := 0
  mirrorWrite := .none
  mirrorTimer := none
  noticesOwed := false

/-- The Exchange Unit after disable and after power-on (R181). -/
def ExchangeUnit.reset : ExchangeUnit := ⟨Vector.replicate 17 .reset, [], []⟩

/-- The registers after power-on (R186). -/
def Registers.reset : Registers := ⟨false, 0, 0, 0⟩

/-- An incident record after disable and after power-on (R191): every field clear or 0. -/
def IncidentRecord.reset : IncidentRecord where
  valid := false
  overflow := false
  severity := .minor
  code := .clear
  addressValid := false
  address := 0
  ordinalValid := false
  ordinal := 0
  position := 0
  sequence := 0
  minorCount := 0
  countChanged := false

/-- The part right after power-on (R188), with no command waiting. -/
def State.reset : State where
  regs := .reset
  fetch := .reset
  pool := .reset
  auds := Vector.replicate 16 .reset
  devices := .reset
  exchange := .reset
  incidents := Vector.replicate 17 .reset
  pending := []

end Sys2Proof.Machine
end

