-- ==== Sys2Proof/Machine/Operands.lean ====
section
/-! DEFINITION. Reading what reaches the part as bytes: the host halves, the host records, the timecode word and
the uplink message, by the layouts of R190, and the rate table of R1. Every multi-byte field is
little-endian, and a bit not named in a field is ignored. -/

namespace Sys2Proof.Machine

/-! ### Fields -/

/-- The byte at an offset. -/
def byteAt (bytes : List Byte) (offset : Nat) : Byte := bytes.getD offset 0

/-- A little-endian unsigned field of `size` bytes at an offset (R190). -/
def leNat (bytes : List Byte) (offset : Nat) : Nat → Nat
  | 0 => 0
  | size + 1 => (byteAt bytes offset).toNat + 256 * leNat bytes (offset + 1) size

/-- A little-endian signed 16-bit field (R190). -/
def leInt16 (bytes : List Byte) (offset : Nat) : Int :=
  (BitVec.ofNat 16 (leNat bytes offset 2)).toInt

/-- A little-endian host address (R190). -/
def leAddr (bytes : List Byte) (offset : Nat) : HostAddr := BitVec.ofNat 64 (leNat bytes offset 8)

/-- The `width` low bits of a byte. -/
def lowBits (b : Byte) (width : Nat) : BitVec width := b.setWidth width

/-- Part `k` of a byte string cut into pieces of `size` bytes. -/
def piece (bytes : List Byte) (size k : Nat) : List Byte := (bytes.drop (size * k)).take size

/-- A host address some bytes on, in the 64 bits an address has (log 6). -/
def addrPlus (base : HostAddr) (offset : Nat) : HostAddr := base + BitVec.ofNat 64 offset

/-! ### Rates -/

/-- Ticks per frame of a rate code (R1); codes 6 and 7 are invalid wherever they appear. -/
def tpf : Nat → Nat
  | 0 => 50
  | 1 => 48
  | 2 => 40
  | 3 => 25
  | 4 => 24
  | 5 => 20
  | _ => 0

/-- Frames per second of a rate code (R1). -/
def fps : Nat → Nat
  | 0 => 24
  | 1 => 25
  | 2 => 30
  | 3 => 48
  | 4 => 50
  | 5 => 60
  | _ => 0

/-- The 8-bit sum, modulo 256, of the first seven bytes of an eight-byte word or message (R5, R147). -/
def checkSum (w : Vector Byte 8) : Byte := w[0] + w[1] + w[2] + w[3] + w[4] + w[5] + w[6]

/-! ### Timecode word -/

/-- The fields of a timecode word that the part acts on (R5, R190). -/
structure Timecode where
  rate : Nat
  hours : Nat
  minutes : Nat
  seconds : Nat
  frames : Nat
  deriving DecidableEq, Repr

/-- The fields at their places (R190). -/
def readTimecode (w : Vector Byte 8) : Timecode where
  rate := (lowBits w[1] 3).toNat
  hours := w[2].toNat
  minutes := w[3].toNat
  seconds := w[4].toNat
  frames := w[5].toNat

/-- A word is discarded when any test of R7 holds; this is the negation of all four. -/
def timecodeValid (w : Vector Byte 8) : Bool :=
  let t := readTimecode w
  decide (w[7] = checkSum w) && decide (t.rate ≤ 5) && decide (t.hours < 24) && decide (t.minutes < 60)
    && decide (t.seconds < 60) && decide (t.frames < fps t.rate)

/-- The converted position P_tc of a valid word under a timecode offset (R8). -/
def timecodePosition (t : Timecode) (offset : Int) : Nat :=
  let frames := ((t.hours * 60 + t.minutes) * 60 + t.seconds) * fps t.rate + t.frames
  min ((frames * tpf t.rate : Nat) + offset).toNat Config.maxPosition

/-! ### Uplink message -/

/-- The kind an uplink kind code names, if any (R190). -/
def uplinkKind (code : Byte) : Option UplinkKind :=
  if code = 1 then some .join
  else if code = 2 then some .alive
  else if code = 3 then some .repeatRows
  else if code = 4 then some .leave
  else none

/-- The device id of a message (R190). -/
def uplinkDevice (m : Vector Byte 8) : BitVec 32 := m[3] ++ m[2] ++ m[1] ++ m[0]

/-! ### Host halves -/

/-- The kind a channel kind code names, if any (R190). -/
def channelKind (code : Byte) : Option ChannelKind :=
  if code = 0 then some .off
  else if code = 1 then some .text
  else if code = 2 then some .audio
  else none

/-- The track of the two low bits of a byte. -/
def trackOf (b : Byte) : Fin 4 := (lowBits b 2).toFin

/-- A channel descriptor's 16 bytes (R190). A kind code that names none is taken as OFF (R93). -/
def readDescriptor (bytes : List Byte) : ChannelDescriptor where
  kind := (channelKind (byteAt bytes 0)).getD .off
  track := trackOf (byteAt bytes 1)
  classMatch := lowBits (byteAt bytes 2) 4
  classCare := lowBits (byteAt bytes 3) 4
  glyphMode := if (byteAt bytes 4).getLsbD 0 then .g512 else .g256
  fgEnable := (byteAt bytes 5).getLsbD 0
  bgEnable := (byteAt bytes 5).getLsbD 1
  flashEnable := (byteAt bytes 5).getLsbD 2
  fgValue := lowBits (byteAt bytes 6) 4
  bgValue := lowBits (byteAt bytes 7) 3
  flashValue := (byteAt bytes 8).getLsbD 0
  language := BitVec.ofNat 24 (leNat bytes 9 3)

/-- The bytes of channel `c`'s descriptor in a slot's host half (R190). -/
def descriptorBytes (half : List Byte) (c : Chan) : List Byte := (half.drop (0x020 + 16 * c.val)).take 16

/-- The request generation word of a host half, slot or site (R190). -/
def requestGeneration (half : List Byte) : Word := BitVec.ofNat 32 (leNat half 0x000 4)

/-- A slot's host half (R190). A requested state code that names none is taken as STANDBY (R171). -/
def readSlotRequest (half : List Byte) : SlotRequest where
  generation := requestGeneration half
  requested := if byteAt half 0x004 = 0 then .off else if byteAt half 0x004 = 2 then .show else .standby
  stateBad := decide (2 < (byteAt half 0x004).toNat)
  editRate := leNat half 0x005 1
  segmentCount := leNat half 0x006 1
  reference := leAddr half 0x008
  tcOffset := leInt16 half 0x010
  freewheelLimit := leNat half 0x012 2
  catchUpLimit := leNat half 0x014 2
  keepBack := leNat half 0x018 4
  acknowledge := BitVec.ofNat 16 (leNat half 0x01C 2)
  channels := vofFn (fun c => readDescriptor (descriptorBytes half c))
  kindBad := vofFn (fun c => (channelKind (byteAt (descriptorBytes half c) 0)).isNone)

/-- The site block's host half (R190): the two thresholds and the acknowledge sequence. -/
structure SiteRequest where
  quiet : Nat
  release : Nat
  acknowledge : BitVec 16
  deriving DecidableEq, Repr

/-- The site's fields at their places (R190). -/
def readSiteRequest (half : List Byte) : SiteRequest where
  quiet := leNat half 0x004 2
  release := leNat half 0x006 2
  acknowledge := BitVec.ofNat 16 (leNat half 0x008 2)

/-! ### Programme records -/

/-- A segment descriptor as encoded (R32). -/
structure SegmentDesc where
  address : HostAddr
  count : Nat
  firstStart : Nat
  lastStart : Nat
  deriving DecidableEq, Repr

/-- A segment descriptor's 32 bytes (R190). -/
def readSegmentDesc (bytes : List Byte) : SegmentDesc where
  address := leAddr bytes 0
  count := leNat bytes 8 2
  firstStart := leNat bytes 12 4
  lastStart := leNat bytes 16 4

/-- The kind a cue kind code names, if any (R190). -/
def cueKind (code : Byte) : Option CueKind :=
  if code = 1 then some .text
  else if code = 2 then some .clear
  else if code = 3 then some .audio
  else none

/-- A cue record's 32 bytes (R190). -/
def readCueRecord (bytes : List Byte) : CueRecord where
  start := leNat bytes 0 4
  duration := leNat bytes 4 2
  kind := cueKind (byteAt bytes 6)
  trackMask := lowBits (byteAt bytes 7) 4
  classFlags := lowBits (byteAt bytes 8) 4
  firstRow := trackOf (byteAt bytes 9)
  lines := (lowBits (byteAt bytes 10) 3).toNat
  reference := leAddr bytes 16
  count := leNat bytes 12 2

/-- A packet descriptor's 16 bytes (R190). -/
def readPacketDesc (bytes : List Byte) : PacketDesc := ⟨leAddr bytes 0, leNat bytes 8 2⟩

/-- The packet descriptors of an AUDIO_LIST read (R63, R120). -/
def readPacketDescs (bytes : List Byte) : List PacketDesc :=
  (List.range (bytes.length / 16)).map (fun k => readPacketDesc (piece bytes 16 k))

/-- The host cells of a TEXT read, two bytes each (R62, R190). -/
def readHostCells (bytes : List Byte) : List HostCell :=
  (List.range (bytes.length / 2)).map (fun k => ⟨byteAt bytes (2 * k), byteAt bytes (2 * k + 1)⟩)

/-- A host cell decoded for a channel (R97): by glyph mode, and then by the channel's overrides. -/
def decodeCell (d : ChannelDescriptor) (h : HostCell) : Cell where
  glyph :=
    match d.glyphMode with
    | .g256 => h.code.setWidth 9
    | .g512 => h.code.setWidth 9 + (if h.attr.getLsbD 3 then 256 else 0)
  fg :=
    if d.fgEnable then d.fgValue
    else match d.glyphMode with
      | .g256 => (lowBits h.attr 3).setWidth 4 + (if h.attr.getLsbD 3 then 8 else 0)
      | .g512 => (lowBits h.attr 3).setWidth 4
  bg := if d.bgEnable then d.bgValue else h.attr.extractLsb' 4 3
  flash := if d.flashEnable then d.flashValue else h.attr.getLsbD 7

end Sys2Proof.Machine
end

