-- ==== Sys2Proof/Machine/Ops.lean ====
section
/-! DEFINITION. The named operations every chapter uses: reading and changing one auditorium's context, block by
block; the position P; the order of a window's entries; and the fetch queue's own operations, an offer, an
entry and a departure (R77 to R79). -/

namespace Sys2Proof.Machine

/-- The outcome of a command. -/
abbrev Result := Host.Outcome State Fault Refusal

/-! ### One auditorium's contexts -/

/-- The contexts of auditorium `a`. -/
def State.aud (s : State) (a : Aud) : Auditorium := s.auds[a]

/-- The contexts of auditorium `a` replaced. -/
def State.setAud (s : State) (a : Aud) (x : Auditorium) : State := { s with auds := s.auds.set a x }

/-- The tracker context changed. -/
def State.updTracker (s : State) (a : Aud) (f : Tracker → Tracker) : State :=
  s.setAud a { s.aud a with tracker := f (s.aud a).tracker }

/-- The line receiver changed. -/
def State.updLine (s : State) (a : Aud) (f : LineReceiver → LineReceiver) : State :=
  s.setAud a { s.aud a with line := f (s.aud a).line }

/-- The programme context changed. -/
def State.updProgramme (s : State) (a : Aud) (f : Programme → Programme) : State :=
  s.setAud a { s.aud a with programme := f (s.aud a).programme }

/-- The window context changed. -/
def State.updWindow (s : State) (a : Aud) (f : Window → Window) : State :=
  s.setAud a { s.aud a with window := f (s.aud a).window }

/-- The release context changed. -/
def State.updRelease (s : State) (a : Aud) (f : Release → Release) : State :=
  s.setAud a { s.aud a with release := f (s.aud a).release }

/-- The streamer's state changed. -/
def State.updStreamer (s : State) (a : Aud) (f : Streamer → Streamer) : State :=
  s.setAud a { s.aud a with streamer := f (s.aud a).streamer }

/-- The lane context changed. -/
def State.updLane (s : State) (a : Aud) (f : Lane → Lane) : State :=
  s.setAud a { s.aud a with lane := f (s.aud a).lane }

/-- The lifecycle context changed (R169). -/
def State.setLifecycle (s : State) (a : Aud) (st : AudState) (pending : Option SlotRequest) : State :=
  s.setAud a { s.aud a with state := st, pendingRequest := pending }

/-- The exchange context of a party changed. -/
def State.updParty (s : State) (p : Party) (f : ExchangeContext → ExchangeContext) : State :=
  { s with exchange := { s.exchange with parties := s.exchange.parties.set p (f s.exchange.parties[p]) } }

/-- The exchange context of a party. -/
def State.party (s : State) (p : Party) : ExchangeContext := s.exchange.parties[p]

/-- The position P of an auditorium: the integer part of its estimate (R9). -/
def State.position (s : State) (a : Aud) : Nat := (s.aud a).tracker.est.ticks

/-- The position a report or a class rule reads for a party: P of a slot's auditorium, 0 for the site
(R77, R192). -/
def State.partyPosition (s : State) (p : Party) : Nat :=
  match p.aud? with
  | some a => s.position a
  | none => 0

/-- The audience of a channel (R153). -/
def State.audience (s : State) (a : Aud) (c : Chan) : Nat := s.devices.audience[a][c]

/-! ### Window entries -/

/-- The ordinal an entry holds, if it is not FREE (R52). -/
def Entry.ordinal? : Entry → Option Nat
  | .free => none
  | .fetching o _ _ => some o
  | .judged _ c => some c.ordinal

/-- The cue of a LOADING, READY or ACTIVE entry. -/
def Entry.cue? : Entry → Option EntryCue
  | .judged _ c => some c
  | _ => none

/-- The pool blocks an entry holds (R52). -/
def Entry.blocks : Entry → List BlockIx
  | .judged _ c => c.blocks
  | _ => []

/-- The entry of a window by its number. -/
def Window.entry (w : Window) (e : EntryIx) : Entry := w.entries[e]

/-- The entry replaced. -/
def Window.setEntry (w : Window) (e : EntryIx) (x : Entry) : Window :=
  { w with entries := w.entries.set e x }

/-- The order key of a judged entry: its start and ordinal (R52). -/
def Window.judgedKey (w : Window) (e : EntryIx) : Nat × Nat :=
  match w.entry e with
  | .judged _ c => (c.start, c.ordinal)
  | _ => (0, 0)

/-- The judged entries in (start, ordinal) order (R55). -/
def Window.judgedOrder (w : Window) : List EntryIx :=
  sortBy (fun x y => keyBefore (w.judgedKey x) (w.judgedKey y))
    ((List.finRange 64).filter (fun e => (w.entry e).cue?.isSome))

/-- The FETCHING entries with their ordinals, in ordinal order (R41, R55). -/
def Window.fetchOrder (w : Window) : List (EntryIx × Nat) :=
  sortBy (fun x y => decide (x.2 < y.2))
    ((List.finRange 64).filterMap (fun e =>
      match w.entry e with
      | .fetching o _ _ => some (e, o)
      | _ => none))

/-- The order of the window's non-FREE entries: FETCHING entries stand behind every judged one (R55). -/
def Window.order (w : Window) : List EntryIx := w.judgedOrder ++ w.fetchOrder.map Prod.fst

/-- Whether a non-FREE entry holds the ordinal. -/
def Window.holds (w : Window) (ordinal : Nat) : Bool :=
  (List.finRange 64).any (fun e => (w.entry e).ordinal? == some ordinal)

/-! ### The fetch queue -/

/-- How the queue answers an offer (R78). -/
inductive OfferResult where
  | entered | queueFull | partyFull
  deriving DecidableEq, Repr

/-- The queue's answer to an offer of a party, QUEUE_FULL while ENABLE is 0 (R78); where both tests fail it names
QUEUE_FULL (log 17). -/
def State.offerResult (s : State) (p : Party) : OfferResult :=
  if !s.regs.enable then .queueFull
  else if Config.queuePlaces ≤ s.fetch.queue.length then .queueFull
  else if Config.partyPlaces ≤ s.fetch.queuedCount[p] then .partyFull
  else .entered

/-- The class that the requester's rule gives from the position and the reach (R58, R77, R120, R121). -/
def ClassTerms.cls (position : Nat) (reach : Option Nat) : ClassTerms → Fin 4
  | .fixed c => c
  | .record =>
    match reach with
    | none => 2
    | some r => if r ≤ position + 1200 then 2 else 3
  | .near start => if start ≤ position + 1200 then 2 else 3
  | .tableHead presentation start =>
    if presentation ≤ position + 240 then 0 else if start ≤ position + 1200 then 2 else 3
  | .batch presentation => if presentation ≤ position + 240 then 0 else 2
  | .packet presentation => if presentation ≤ position + 240 then 0 else 3

/-- The reach a party's window reads: the order floor of its programme context (R51). -/
def State.reach (s : State) (p : Party) : Option Nat :=
  match p.aud? with
  | some a => (s.aud a).programme.orderFloor
  | none => none

/-- The class of a request at this moment (R77). -/
def State.classOf (s : State) (r : Request) : Fin 4 :=
  r.terms.cls (s.partyPosition r.party) (s.reach r.party)

/-- A request enters at the end of the queue, with its class fixed (R77, R78). -/
def State.enqueue (s : State) (r : Request) : State :=
  { s with fetch := { s.fetch with
      queue := s.fetch.queue ++ [⟨r, s.classOf r⟩]
      queuedCount := s.fetch.queuedCount.set r.party (s.fetch.queuedCount[r.party] + 1) } }

/-- The departure event handed to the blocks of one auditorium that hold a refused request (R79). -/
def Auditorium.toldOfDeparture (x : Auditorium) (p : Party) : Auditorium :=
  { x with
    window :=
      if x.window.offers.isEmpty then x.window
      else { x.window with departures := x.window.departures ++ [p] }
    programme :=
      match x.programme.batch with
      | .waiting _ => { x.programme with departures := x.programme.departures ++ [p] }
      | _ => x.programme
    streamer :=
      if x.streamer.offers.isEmpty then x.streamer
      else { x.streamer with departures := x.streamer.departures ++ [p] } }

/-- A departure: the event goes to each requester block that holds a refused request (R79). -/
def State.depart (s : State) (p : Party) : State :=
  { s with
    auds := vmap (fun x => x.toldOfDeparture p) s.auds
    exchange :=
      if s.exchange.offers.isEmpty then s.exchange
      else { s.exchange with departures := s.exchange.departures ++ [p] } }

/-- A programme request of an auditorium, with the tags as they stand (R76). -/
def State.programmeRequest (s : State) (a : Aud) (purpose : Purpose) (requester : Requester)
    (ordinal : Option Nat) (seekTag : Option Gen) (address : HostAddr) (length : Nat)
    (terms : ClassTerms) : Request where
  party := Party.slot a
  purpose := purpose
  requester := requester
  ordinal := ordinal
  attachTag := some s.fetch.attachGen[a]
  seekTag := seekTag
  epochTag := s.fetch.runEpoch
  address := address
  length := length
  terms := terms

/-- The tracker's current seek generation of an auditorium (R26). -/
def State.seekGen (s : State) (a : Aud) : Gen := (s.aud a).tracker.seekGen

/-- The window makes a request: it enters the queue, or joins the end of the window's offer list (R58). -/
def State.windowRequest (s : State) (a : Aud) (r : Request) : State :=
  match s.offerResult r.party with
  | .entered => s.enqueue r
  | _ => s.updWindow a (fun w => { w with offers := w.offers ++ [r] })

/-- The streamer makes a request: it enters the queue, or joins the end of the offer list (R121). -/
def State.streamerRequest (s : State) (a : Aud) (r : Request) : State :=
  match s.offerResult r.party with
  | .entered => s.enqueue r
  | _ => s.updStreamer a (fun x => { x with offers := x.offers ++ [r] })

/-- The Programme Unit makes its one descriptor request, which is outstanding or waits (R30, R33). -/
def State.programmeBatch (s : State) (a : Aud) (r : Request) : State :=
  match s.offerResult r.party with
  | .entered => (s.enqueue r).updProgramme a (fun p => { p with batch := .outstanding })
  | _ => s.updProgramme a (fun p => { p with batch := .waiting r })

/-- The offset of a party's host half in the exchange area (R180). -/
def hostHalfOffset (p : Party) : Nat := if p = Party.site then 0x0000 else 0x0400 + 0x200 * p.val

/-- The offset of a party's mirror half in the exchange area (R180). -/
def mirrorHalfOffset (p : Party) : Nat := hostHalfOffset p + 0x100

/-- The base of the exchange area: KXBASE with its low 14 bits taken as 0 (R180). -/
def State.exchangeBase (s : State) : HostAddr := s.regs.kxbase &&& ~~~0x3FFF#64

/-- An exchange request of a party: no tags but the epoch, 256 bytes of one half (R76). -/
def State.exchangeRequest (s : State) (p : Party) (purpose : Purpose) : Request where
  party := p
  purpose := purpose
  requester := .exchange
  ordinal := none
  attachTag := none
  seekTag := none
  epochTag := s.fetch.runEpoch
  address := addrPlus s.exchangeBase (if purpose = .mirrorWrite then mirrorHalfOffset p else hostHalfOffset p)
  length := 256
  terms := .fixed (if purpose = .mirrorWrite then 3 else 1)

/-- A scan or take read of a party's host half is made, and the directory read says which (R182). -/
def State.directoryRequest (s : State) (p : Party) (kind : DirectoryRead) : State :=
  let s := s.updParty p (fun x => { x with directoryRead := kind })
  let r := s.exchangeRequest p .directory
  match s.offerResult p with
  | .entered => s.enqueue r
  | _ => { s with exchange := { s.exchange with offers := s.exchange.offers ++ [r] } }

/-- A mirror write is asked for: one is made if the party has none waiting or queued (R184). -/
def State.askMirrorWrite (s : State) (p : Party) : State :=
  match (s.party p).mirrorWrite with
  | .none =>
    let r := s.exchangeRequest p .mirrorWrite
    match s.offerResult p with
    | .entered => (s.enqueue r).updParty p (fun x => { x with mirrorWrite := .queued })
    | _ =>
      { s with exchange := { s.exchange with offers := s.exchange.offers ++ [r] } }.updParty p
        (fun x => { x with mirrorWrite := .waiting })
  | _ => s

end Sys2Proof.Machine
end

