-- ==== Sys2Proof/Machine/Flags.lean ====
section
/-! DEFINITION. The part's flags: the counters (R196), the notice reasons and the interrupt line (R185), and the
incident records with their acknowledge (R192 to R195). -/

namespace Sys2Proof.Machine

/-! ### Counters -/

/-- The index k of a counter (R196). -/
def Counter.index : Counter → Fin 16
  | .wordsDiscarded => 0
  | .slips => 1
  | .seeks => 2
  | .cuesReleased => 3
  | .late => 4
  | .missed => 5
  | .superseded => 6
  | .fieldsClamped => 7
  | .packetsSent => 8
  | .packetsLate => 9
  | .packetsUnheard => 10
  | .packetsPreempted => 11
  | .streamsCompleted => 12
  | .uplinkDiscarded => 13
  | .stray => 14
  | .repliesDiscarded => 15

/-- A counter of an auditorium as it stands. -/
def State.counter (s : State) (a : Aud) (k : Counter) : Word := (s.aud a).counters[k.index]

/-- A counter rises by `n`, wrapping at 32 bits (R196). -/
def State.bump (s : State) (a : Aud) (k : Counter) (n : Nat) : State :=
  s.setAud a { s.aud a with
    counters := (s.aud a).counters.set k.index ((s.aud a).counters[k.index] + BitVec.ofNat 32 n) }

/-! ### Notice reasons and the interrupt line -/

/-- A notice reason raised for a party: notices owed is set and a mirror write is asked for (R184, R185). -/
def State.raiseReason (s : State) (p : Party) : State :=
  (s.updParty p (fun x => { x with noticesOwed := true })).askMirrorWrite p

/-- The interrupt line: high while KNOTE and KNOTEMASK have a set bit in common (R185; log 35). -/
def State.interrupt (s : State) : Bool := decide (s.regs.knote &&& s.regs.knotemask ≠ 0)

/-! ### Incident records -/

/-- The record written from a report (R192). -/
def IncidentRecord.write (r : IncidentRecord) (severity : Severity) (code : IncidentCode)
    (address : Option HostAddr) (ordinal : Option Nat) (position : Nat) (overflow : Bool) :
    IncidentRecord :=
  { r with
    valid := true
    overflow := overflow
    severity := severity
    code := code
    addressValid := address.isSome
    address := address.getD 0
    ordinalValid := ordinal.isSome
    ordinal := ordinal.getD 0
    position := position
    sequence := r.sequence + 1 }

/-- The record after a report, by the record before it (R192), with the minor count still to be stepped. -/
def IncidentRecord.receive (r : IncidentRecord) (severity : Severity) (code : IncidentCode)
    (address : Option HostAddr) (ordinal : Option Nat) (position : Nat) : IncidentRecord :=
  if !r.valid then r.write severity code address ordinal position false
  else if r.severity = .minor ∧ severity = .major then
    r.write severity code address ordinal position true
  else { r with overflow := true }

/-- A MINOR report steps the minor count, saturating at 65535 (R192). -/
def IncidentRecord.countMinor (r : IncidentRecord) (severity : Severity) : IncidentRecord :=
  if severity = .minor ∧ r.minorCount < 65535 then { r with minorCount := r.minorCount + 1 } else r

/-- Whether a report raises "incident record written" (R193): the record is written, or its overflow flag
goes from clear to set. -/
def IncidentRecord.raisesReason (r : IncidentRecord) (severity : Severity) : Bool :=
  !r.valid || (decide (r.severity = .minor) && decide (severity = .major)) || !r.overflow

/-- The incident record of a party. -/
def State.incident (s : State) (p : Party) : IncidentRecord := s.incidents[p]

/-- The incident record of a party replaced. -/
def State.setIncident (s : State) (p : Party) (r : IncidentRecord) : State :=
  { s with incidents := s.incidents.set p r }

/-- A block reports an incident against a party's record (R192), and the reason or the count changed flag
follows (R193). -/
def State.report (s : State) (p : Party) (severity : Severity) (code : IncidentCode)
    (address : Option HostAddr) (ordinal : Option Nat) : State :=
  let before := s.incident p
  let after := (before.receive severity code address ordinal (s.partyPosition p)).countMinor severity
  if before.raisesReason severity then
    (s.setIncident p { after with countChanged := false }).raiseReason p
  else
    s.setIncident p
      { after with countChanged := before.countChanged || decide (before.minorCount < after.minorCount) }

/-- One CONFIG_CLAMPED report against the auditorium, where a value was clamped (R4, R47, R93). -/
def State.reportClamp (s : State) (a : Aud) (clamped : Bool) : State :=
  if clamped then s.report (Party.slot a) .minor .configClamped none none else s

/-- The acknowledge of a taken request (R195). -/
def State.acknowledge (s : State) (p : Party) (sequence : BitVec 16) : State :=
  let r := s.incident p
  if sequence = r.sequence ∧ r.valid then s.setIncident p { r with valid := false, overflow := false }
  else s

/-- One party's part of the incident sweep (R194). -/
def State.incidentSweepParty (s : State) (p : Party) : State :=
  if (s.incident p).countChanged then
    (s.setIncident p { s.incident p with countChanged := false }).raiseReason p
  else s

/-- INCIDENT_SWEEP: each party with count changed set raises "incident record written" (R194), the parties in
ascending order (log 40). -/
def execIncidentSweep (s : State) : Result :=
  .next ((List.finRange 17).foldl State.incidentSweepParty s)

end Sys2Proof.Machine
end

