-- ==== Sys2Proof/Machine/Pool.lean ====
section
/-! DEFINITION. The Text Pool (R85 to R88): the two parts of the pool, the decision on a request for blocks, the
cells of a text read, the release of blocks, and the order of a retry round. -/

namespace Sys2Proof.Machine

/-- The reserve of an auditorium, blocks 16a..16a+15, in ascending order (R85). -/
def reserveBlocks (a : Aud) : List BlockIx :=
  (List.finRange 16).map (fun i => ⟨16 * a.val + i.val, by omega⟩)

/-- The shared blocks 256..511, in ascending order (R85). -/
def sharedBlocks : List BlockIx := (List.finRange 256).map (fun i => ⟨256 + i.val, by omega⟩)

/-- Whether a block belongs to the shared part. -/
def isShared (b : BlockIx) : Bool := decide (256 ≤ b.val)

/-- The free blocks of a list, in its order. -/
def Pool.freeOf (p : Pool) (bs : List BlockIx) : List BlockIx := bs.filter (fun b => p.blocks[b].holder.isNone)

/-- The pool's decision on a need of `n` blocks, after the wait list's test (R86, steps 2 to 4): the handles
granted, in ascending order, or none. -/
def Pool.choose (p : Pool) (a : Aud) (n : Nat) : Option (List BlockIx) :=
  if p.reserveHeld[a] + p.sharedHeld[a] + n ≤ 16 then some ((p.freeOf (reserveBlocks a)).take n)
  else if n ≤ (p.freeOf sharedBlocks).length then some ((p.freeOf sharedBlocks).take n)
  else none

/-- A block's holder set. -/
def Pool.setHolder (p : Pool) (b : BlockIx) (h : Option (Aud × EntryIx)) : Pool :=
  { p with blocks := p.blocks.set b { p.blocks[b] with holder := h } }

/-- Blocks held by an entry from now on, and the holdings stepped part by part (R86). -/
def Pool.grant (p : Pool) (a : Aud) (e : EntryIx) (bs : List BlockIx) : Pool :=
  let q := bs.foldl (fun q b => q.setHolder b (some (a, e))) p
  { q with
    reserveHeld := q.reserveHeld.set a (q.reserveHeld[a] + (bs.filter (fun b => !isShared b)).length)
    sharedHeld := q.sharedHeld.set a (q.sharedHeld[a] + (bs.filter isShared).length) }

/-- Blocks returned, each to the part it came from; a release of at least one block starts one retry round
(R87). The cells are not cleared. -/
def Pool.giveBack (p : Pool) (a : Aud) (bs : List BlockIx) : Pool :=
  if bs.isEmpty then p
  else
    let q := bs.foldl (fun q b => q.setHolder b none) p
    { q with
      reserveHeld := q.reserveHeld.set a (q.reserveHeld[a] - (bs.filter (fun b => !isShared b)).length)
      sharedHeld := q.sharedHeld.set a (q.sharedHeld[a] - (bs.filter isShared).length)
      roundsOwed := q.roundsOwed + 1 }

/-- The cells of a text read put into its blocks, 16 to a block in order (R62). Cells beyond the text keep
what they held (R87). -/
def Pool.fill (p : Pool) : List BlockIx → List HostCell → Pool
  | [], _ => p
  | b :: bs, cells =>
    let old := p.blocks[b]
    let new : Vector HostCell 16 := vofFn (fun i => (cells[i.val]?).getD old.cells[i])
    Pool.fill { p with blocks := p.blocks.set b { old with cells := new } } bs (cells.drop 16)

/-- Cell `k` of the text of a cue of that ordinal, held in blocks `bs` (R97). Where there is no block for it the manual
gives no cell, and it is a free value (log 42). -/
def Pool.textCell (p : Pool) (ordinal : Nat) (bs : List BlockIx) (k : Nat) : HostCell :=
  match bs[k / 16]? with
  | some b => p.blocks[b].cells[k % 16]'(Nat.mod_lt _ (by decide))
  | none => ⟨(Config.absentCell ordinal k).setWidth 8, (Config.absentCell ordinal k).extractLsb' 8 8⟩

/-- The blocks a TEXT cue of so many lines needs: ceil(lines × 40 / 16) (R59). -/
def blocksNeeded (lines : Nat) : Nat := ceilDiv (lines * 40) 16

/-- The order of a retry round's turns: from the auditorium after the retry pointer, once round (R88). -/
def turnOrder (pointer : Aud) : List Aud :=
  (List.finRange 16).map (fun i => pointer + 1 + i)

end Sys2Proof.Machine
end

