-- ==== Sys2Proof/Machine/Programme.lean ====
section
/-! DEFINITION. The Programme Unit (chapter 2): the segment table and its loader, appends, the judging of one cue
record, the retire mark and the retired floor. -/

namespace Sys2Proof.Machine

/-! ### Segment descriptors -/

/-- The first test of R34 that holds makes a descriptor bad; test 4 compares with the segment before it, if
there is one. -/
def SegmentDesc.bad (d : SegmentDesc) (before : Option Segment) : Bool :=
  decide (d.count = 0) || decide (4096 < d.count)
    || decide (d.address = 0) || decide (d.address.toNat % 32 ≠ 0)
    || decide (d.lastStart < d.firstStart)
    || (match before with
        | some b => decide (d.firstStart < b.lastStart)
        | none => false)

/-- A good descriptor as a segment entry, with its starts in ticks, not clamped (R32). -/
def SegmentDesc.segment (d : SegmentDesc) (rate : Nat) : Segment :=
  ⟨d.address, d.count, d.firstStart, d.lastStart, d.firstStart * tpf rate, d.lastStart * tpf rate⟩

/-- A batch judged in index order: the table with the good descriptors, and whether one was bad, which ends
the judging (R33, R34). -/
def judgeDescs (rate : Nat) (table : List Segment) : List SegmentDesc → List Segment × Bool
  | [] => (table, false)
  | d :: ds =>
    if d.bad table.getLast? then (table, true) else judgeDescs rate (table ++ [d.segment rate]) ds

/-- The table state leaves LOADING, and the first time after an attach the table ready event is handed to
the window (R36). -/
def State.leaveLoading (s : State) (a : Aud) (st : TableState) : State :=
  let first := !(s.aud a).programme.readyHanded
  let s := s.updProgramme a (fun p => { p with tableState := st, readyHanded := true })
  if first then s.updWindow a (fun w => { w with readyEvent := true }) else s

/-- The next SEGMENT_DESC request: up to 16 descriptors from the load cursor (R33). -/
def State.requestBatch (s : State) (a : Aud) : State :=
  let p := (s.aud a).programme
  let n := min 16 (p.segmentCount - p.loadCursor)
  s.programmeBatch a
    (s.programmeRequest a .segmentDesc .programme none none (addrPlus p.reference (32 * p.loadCursor))
      (32 * n) (.fixed 1))

/-- The loader goes on: COMPLETE at N, else the next batch (R33). -/
def State.loadOn (s : State) (a : Aud) : State :=
  let p := (s.aud a).programme
  if p.segmentCount ≤ p.loadCursor then s.leaveLoading a .complete else s.requestBatch a

/-- A descriptor batch completes with data (R33, R34). -/
def State.batchData (s : State) (a : Aud) (bytes : List Byte) : State :=
  let p := (s.aud a).programme
  let descs := (List.range (bytes.length / 32)).map (fun k => readSegmentDesc (piece bytes 32 k))
  let judged := judgeDescs p.editRate p.table descs
  let s := s.updProgramme a (fun p =>
    { p with table := judged.1, loadCursor := judged.1.length, batch := .none })
  if judged.2 then
    (s.leaveLoading a .ended).report (Party.slot a) .major .segmentBad
      (some (addrPlus p.reference (32 * judged.1.length))) none
  else s.loadOn a

/-- A descriptor batch completes as FAULT: the table ends where the batch began (R35). -/
def State.batchFault (s : State) (a : Aud) (address : HostAddr) : State :=
  let s := s.updProgramme a (fun p => { p with table := p.table.take p.loadCursor, batch := .none })
  (s.leaveLoading a .ended).report (Party.slot a) .major .fetchFault (some address) none

/-- An append raises N, and a COMPLETE table loads on (R38). -/
def State.append (s : State) (a : Aud) (count : Nat) : State :=
  let before := (s.aud a).programme.tableState
  let s := s.updProgramme a (fun p => { p with segmentCount := count })
  match before with
  | .complete => (s.updProgramme a (fun p => { p with tableState := .loading })).requestBatch a
  | _ => s

/-! ### Cue records -/

/-- The judgement on a cue record (R41). -/
inductive Judgement where
  /-- Skipped as bad (R42). -/
  | bad
  /-- Skipped as out of order (R43). -/
  | disordered
  /-- Taken (R44), with the number of fields brought into range. -/
  | taken (cue : EntryCue) (clamps : Nat)
  deriving DecidableEq, Repr

/-- The tests of R42. -/
def CueRecord.bad (r : CueRecord) (rate : Nat) : Bool :=
  match r.kind with
  | none => true
  | some k =>
    decide (Config.maxPosition < r.start * tpf rate)
      || (match k with
          | .text => decide (r.reference = 0) || decide (r.reference.toNat % 2 ≠ 0)
          | .audio =>
            decide (r.reference = 0) || decide (r.reference.toNat % 8 ≠ 0) || decide (r.count = 0)
          | .clear => false)

/-- The lines of a TEXT or CLEAR cue after R44: 0 becomes 1, and a cue past row 3 is cut. -/
def clampLines (firstRow lines : Nat) : Nat := min (max lines 1) (4 - firstRow)

/-- A TEXT cue's length in ticks after R44. -/
def clampDuration (rate duration : Nat) : Nat := min (max duration 1 * tpf rate) Config.longestLife

/-- A count that is 1 where a value was brought into range. -/
def changed (before after : Nat) : Nat := if before = after then 0 else 1

/-- The end ticks of a record that is taken (R40, R44). -/
def CueRecord.finish (r : CueRecord) (rate : Nat) (kind : CueKind) : Nat :=
  match kind with
  | .text => r.start * tpf rate + clampDuration rate r.duration
  | .clear => r.start * tpf rate
  | .audio => r.start * tpf rate + 24 * min r.count 1500

/-- The number of fields R44 brings into range. -/
def CueRecord.clamps (r : CueRecord) (rate : Nat) (kind : CueKind) : Nat :=
  match kind with
  | .text =>
    changed (r.duration * tpf rate) (clampDuration rate r.duration)
      + changed r.lines (clampLines r.firstRow.val r.lines)
  | .clear => changed r.lines (clampLines r.firstRow.val r.lines)
  | .audio => changed r.count (min r.count 1500)

/-- The lines a taken record hands on: in range where the kind uses them, and as encoded where it does not (R40,
R44). -/
def CueRecord.takenLines (r : CueRecord) : CueKind → Nat
  | .audio => r.lines
  | _ => clampLines r.firstRow.val r.lines

/-- The count a taken record hands on: in range where the kind uses it, and as encoded where it does not (R40,
R44). -/
def CueRecord.takenCount (r : CueRecord) : CueKind → Nat
  | .audio => min r.count 1500
  | _ => r.count

/-- A taken record's fields as the window's entry holds them: those of its kind in range (R44), the others as
encoded (R40). -/
def CueRecord.taken (r : CueRecord) (rate ordinal : Nat) (kind : CueKind) : EntryCue where
  ordinal := ordinal
  start := r.start * tpf rate
  finish := r.finish rate kind
  kind := kind
  trackMask := r.trackMask
  classFlags := r.classFlags
  firstRow := r.firstRow
  lines := r.takenLines kind
  reference := r.reference
  count := r.takenCount kind
  blocks := []
  head := 0
  tableHead := []
  resumed := false
  catchUp := false

/-- A record judged under R42, then R43, then R44. -/
def CueRecord.judge (r : CueRecord) (rate : Nat) (floor : Option Nat) (ordinal : Nat) : Judgement :=
  if r.bad rate then .bad
  else
    match r.kind with
    | none => .bad
    | some k =>
      if (match floor with
          | some f => decide (r.start * tpf rate < f)
          | none => false) then .disordered
      else .taken (r.taken rate ordinal k) (r.clamps rate k)

/-! ### Retirement and the retired floor -/

/-- The conditions of R46 for the segment at the retire mark. -/
def Auditorium.retires (x : Auditorium) : Bool :=
  let k := x.programme.retireMark
  decide (x.state = .show) && decide (x.window.state = .serving)
    && (match x.programme.table[k]? with
        | some seg => decide (seg.lastTicks + Config.longestLife + x.programme.keepBack ≤ x.tracker.est.ticks)
        | none => false)
    && (match x.window.cursor with
        | some (segment, _) => decide (k < segment)
        | none => false)
    && (List.finRange 64).all (fun e =>
        match (x.window.entry e).ordinal? with
        | some o => decide (o / 4096 ≠ k)
        | none => true)

/-- RETIREMENT: the segment at the mark retires where every condition holds (R45, R46). -/
def execRetirement (a : Aud) (s : State) : Result :=
  if (s.aud a).retires then
    .next ((s.updProgramme a (fun p => { p with retireMark := p.retireMark + 1 })).raiseReason
      (Party.slot a))
  else .next s

/-- The retired floor given to the window (R49). -/
def Programme.retiredFloor (p : Programme) : Option Nat :=
  match p.table[p.retireMark]? with
  | some seg => some seg.firstTicks
  | none => none

/-- Whether a search target lies in retired ground, so that RETIRED_SEEK is reported (R49). -/
def Programme.retiredSeek (p : Programme) (target : Nat) : Bool :=
  if p.retireMark = 0 then false
  else
    match p.table[p.retireMark]? with
    | some seg => decide (target < seg.firstTicks)
    | none =>
      match p.table.getLast? with
      | some seg => decide (target < seg.lastTicks + Config.longestLife)
      | none => false

/-- Keep-back is taken from a request (R47). -/
def State.takeKeepBack (s : State) (a : Aud) (r : SlotRequest) : State :=
  let s := s.updProgramme a (fun p => { p with keepBack := min r.keepBack 432000 })
  s.reportClamp a (decide (432000 < r.keepBack))

/-- The context at attach (R31); the first batch is asked for beside it. -/
def Programme.attach (p : Programme) (r : SlotRequest) : Programme :=
  { p with
    tableState := .loading, reference := r.reference, segmentCount := r.segmentCount
    editRate := r.editRate, table := [], loadCursor := 0, batch := .none, retireMark := 0
    orderFloor := none, readyHanded := false }

/-- The context on entering CLOSING (R31). Departure events stay (log 46). -/
def Programme.close (p : Programme) : Programme :=
  { p with tableState := .empty, table := [], loadCursor := 0, batch := .none, orderFloor := none }

/-- The context on leaving CLOSING (R31, R48). -/
def Programme.leaveClosing (p : Programme) : Programme :=
  { p.close with retireMark := p.segmentCount }

end Sys2Proof.Machine
end

