-- ==== Sys2Proof/Machine/Window.lean ====
section
/-! DEFINITION. The Cue Window (chapter 3): freeing entries, the pool requests of a window, taking judged records,
refill, text and table heads, leaves handed, the seek search and the teardown; and the pool's retry round (R88),
whose turns are the windows'. -/

namespace Sys2Proof.Machine

/-! ### Entries becoming FREE -/

/-- Whether a request was made for one of the entries. -/
def Request.ofEntries (r : Request) (es : List EntryIx) : Bool :=
  match r.requester with
  | .windowEntry e => es.contains e
  | _ => false

/-- Entries become FREE in one event: their blocks return to the pool as one release, and they and their
requests leave the window's lists (R53, R58, R87). -/
def State.freeEntries (s : State) (a : Aud) (es : List EntryIx) : State :=
  let handles := es.flatMap (fun e => ((s.aud a).window.entry e).blocks)
  let s := s.updWindow a (fun w =>
    { es.foldl (fun w e => w.setEntry e .free) w with
      poolWait := w.poolWait.filter (fun e => !es.contains e)
      offers := w.offers.filter (fun r => !r.ofEntries es) })
  { s with pool := s.pool.giveBack a handles }

/-- Every non-FREE entry of a window, in entry order. -/
def Window.held (w : Window) : List EntryIx :=
  (List.finRange 64).filter (fun e => (w.entry e).ordinal?.isSome)

/-- An entry becomes READY, and the ready event goes to the block that will use it (R66). It is READY from this
event on, so that a check taken before its ready event finds it READY (log 44). It is on no wait list, which holds
LOADING entries alone (R51; log 42). -/
def State.entryReady (s : State) (a : Aud) (e : EntryIx) (c : EntryCue) : State :=
  let s := s.updWindow a (fun w =>
    { w.setEntry e (.judged .ready c) with poolWait := w.poolWait.filter (fun x => decide (x ≠ e)) })
  match c.kind with
  | .audio => s.updStreamer a (fun x => { x with readies := x.readies ++ [c.ordinal] })
  | _ => s.updRelease a (fun x => { x with readies := x.readies ++ [c.ordinal] })

/-! ### Text blocks -/

/-- The TEXT request of an entry with its blocks (R62). -/
def State.requestText (s : State) (a : Aud) (e : EntryIx) (c : EntryCue) : State :=
  s.windowRequest a
    (s.programmeRequest a .text (.windowEntry e) (some c.ordinal) (some (s.seekGen a)) c.reference
      (80 * c.lines) (.near c.start))

/-- Blocks granted to an entry: its handles are stored, it leaves the wait list and its TEXT request is made
(R59, R61, R86). -/
def State.grantText (s : State) (a : Aud) (e : EntryIx) (c : EntryCue) (bs : List BlockIx) : State :=
  let c := { c with blocks := bs }
  let s := { s with pool := s.pool.grant a e bs }
  let s := s.updWindow a (fun w =>
    { w.setEntry e (.judged .loading c) with poolWait := w.poolWait.filter (fun x => decide (x ≠ e)) })
  s.requestText a e c

/-- A newly taken TEXT entry asks the pool for its blocks (R59, R86): refused while another entry of its
auditorium waits, it joins the wait list at its place in window order. -/
def State.askPool (s : State) (a : Aud) (e : EntryIx) (c : EntryCue) : State :=
  let w := (s.aud a).window
  let answer := if w.poolWait.isEmpty then s.pool.choose a (blocksNeeded c.lines) else none
  match answer with
  | some bs => s.grantText a e c bs
  | none =>
    s.updWindow a (fun w =>
      { w with poolWait :=
          insertBy (fun x y => keyBefore (w.judgedKey x) (w.judgedKey y)) e w.poolWait })

/-- A turn of a retry round: the waiting entries ask in window order until the first refusal (R61, R88). The
result says whether one was granted. -/
def State.retryTurn (s : State) (a : Aud) : List EntryIx → State × Bool
  | [] => (s, false)
  | e :: es =>
    match (s.aud a).window.entry e with
    | .judged .loading c =>
      match s.pool.choose a (blocksNeeded c.lines) with
      | some bs => ((State.retryTurn (s.grantText a e c bs) a es).1, true)
      | none => (s, false)
    | _ => (s, false)

/-- One auditorium's turn in a retry round, with the retry pointer (R88). -/
def State.retryAuditorium (s : State) (a : Aud) : State :=
  let turn := s.retryTurn a (s.aud a).window.poolWait
  if turn.2 then { turn.1 with pool := { turn.1.pool with retryPointer := a } } else turn.1

/-- POOL_RETRY_ROUND: one round that a release started (R87, R88; log 24). -/
def execPoolRetryRound (s : State) : Result :=
  if s.pool.roundsOwed = 0 then .next s
  else
    .next ((turnOrder s.pool.retryPointer).foldl State.retryAuditorium
      { s with pool := { s.pool with roundsOwed := s.pool.roundsOwed - 1 } })

/-! ### Taken records -/

/-- The index of the first packet not behind `position + 12`: ceil((P + 12 − start) / 24), or 0 where that
is below 0 (R71, R118). -/
def firstTimely (position start : Nat) : Nat := ceilDiv (position + 12 - start) 24

/-- The table head's request (R63): descriptors h to min(h + 16, count) − 1. -/
def State.requestHead (s : State) (a : Aud) (e : EntryIx) (c : EntryCue) : State :=
  s.windowRequest a
    (s.programmeRequest a .audioList (.windowEntry e) (some c.ordinal) (some (s.seekGen a))
      (addrPlus c.reference (16 * c.head)) (16 * (min (c.head + 16) c.count - c.head))
      (.tableHead (c.start + 24 * c.head) c.start))

/-- A taken record fills its entry and asks for its material (R59). -/
def State.fillEntry (s : State) (a : Aud) (e : EntryIx) (c : EntryCue) : State :=
  match c.kind with
  | .clear => s.entryReady a e c
  | .text => (s.updWindow a (fun w => w.setEntry e (.judged .loading c))).askPool a e c
  | .audio => (s.updWindow a (fun w => w.setEntry e (.judged .loading c))).requestHead a e c

/-- The outcome of R71's tests on a taken record. -/
inductive RePlacing where
  | passed | resumed | catchUp | ordinary
  deriving DecidableEq, Repr

/-- The tests of R71, in their order. -/
def EntryCue.rePlacing (c : EntryCue) (position : Nat) (bound : Option Nat) : RePlacing :=
  if (match c.kind with
      | .audio => decide (c.count ≤ firstTimely position c.start)
      | _ => decide (c.finish ≤ position)) then .passed
  else if (match bound with
      | some b => decide (c.start < b)
      | none => false) then .resumed
  else if c.start ≤ position then .catchUp
  else .ordinary

/-- The window takes a record that the Programme Unit hands on (R59, R71). -/
def State.takeRecord (s : State) (a : Aud) (e : EntryIx) (c : EntryCue) : State :=
  let w := (s.aud a).window
  let p := s.position a
  if !w.rePlacing then s.fillEntry a e c
  else
    let head := match c.kind with
      | .audio => firstTimely p c.start
      | _ => 0
    match c.rePlacing p w.resumeBound with
    | .passed => s.freeEntries a [e]
    | .resumed => s.fillEntry a e { c with resumed := true, head := head }
    | .catchUp => s.fillEntry a e { c with catchUp := true, head := head }
    | .ordinary => (s.updWindow a (fun w => { w with rePlacing := false })).fillEntry a e c

/-- One record judged and handed to the window, as taken or as skipped (R41 to R44, R60). The fields that R44
brings into range are counted before the window's tests, so those of a record that is then passed (R71) count
too (log 36). -/
def State.judgeRecord (s : State) (a : Aud) (e : EntryIx) (ordinal : Nat) (address : HostAddr)
    (r : CueRecord) : State :=
  let p := (s.aud a).programme
  match r.judge p.editRate p.orderFloor ordinal with
  | .bad => (s.report (Party.slot a) .minor .cueBad (some address) (some ordinal)).freeEntries a [e]
  | .disordered =>
    (s.report (Party.slot a) .minor .cueOrder (some address) (some ordinal)).freeEntries a [e]
  | .taken c clamps =>
    let s := s.bump a .fieldsClamped clamps
    let s := s.updProgramme a (fun p => { p with orderFloor := some c.start })
    s.takeRecord a e c

/-- Waiting records are judged one after another while the FETCHING entry of lowest ordinal has its record
(R41). At most 64 records can wait. -/
def State.judgeWaiting (s : State) (a : Aud) : Nat → State
  | 0 => s
  | fuel + 1 =>
    match (s.aud a).window.fetchOrder with
    | [] => s
    | (e, _) :: _ =>
      match (s.aud a).window.entry e with
      | .fetching o address (some r) => State.judgeWaiting (s.judgeRecord a e o address r) a fuel
      | _ => s

/-- Whether the entry is FETCHING with this ordinal, and then its record's address (R64). A record that waits in the
entry already makes no difference (log 45). -/
def Window.awaitsRecord (w : Window) (e : EntryIx) (ordinal : Option Nat) : Option (Nat × HostAddr) :=
  match w.entry e with
  | .fetching o address _ => if ordinal = some o then some (o, address) else none
  | _ => none

/-- Whether the entry is LOADING with this ordinal, and then its cue (R64). The match is by ordinal and state alone, also
where a TEXT read completes for an AUDIO entry or a table head read for a TEXT entry (log 49). -/
def Window.awaitsMaterial (w : Window) (e : EntryIx) (ordinal : Option Nat) : Option EntryCue :=
  match w.entry e with
  | .judged .loading c => if ordinal = some c.ordinal then some c else none
  | _ => none

/-- A CUE_RECORD read completes for an entry (R41, R60, R64); none is a fault. A record takes the place of one that
waits in the entry (log 45). -/
def State.recordCompletion (s : State) (a : Aud) (e : EntryIx) (r : Request)
    (data : Option (List Byte)) : State :=
  match (s.aud a).window.awaitsRecord e r.ordinal with
  | none => s
  | some (o, address) =>
    match data with
    | some bytes =>
      (s.updWindow a (fun w => w.setEntry e (.fetching o address (some (readCueRecord bytes))))).judgeWaiting
        a 64
    | none =>
      ((s.freeEntries a [e]).report (Party.slot a) .major .fetchFault (some r.address)
        (some o)).judgeWaiting a 64

/-- A TEXT read completes for an entry (R62, R64). An entry that still waits for its blocks has none to store the cells
in, and becomes READY without them (log 42), as does an AUDIO entry, without a table head (log 49). An older read of its
ordinal is taken as the entry's own (log 48). -/
def State.textCompletion (s : State) (a : Aud) (e : EntryIx) (r : Request)
    (data : Option (List Byte)) : State :=
  match (s.aud a).window.awaitsMaterial e r.ordinal with
  | none => s
  | some c =>
    match data with
    | some bytes =>
      { s with pool := s.pool.fill c.blocks (readHostCells bytes) }.entryReady a e c
    | none =>
      (s.freeEntries a [e]).report (Party.slot a) .major .fetchFault (some r.address) (some c.ordinal)

/-- An AUDIO_LIST table head completes for an entry (R63, R64). The descriptors read are the entry's table head, from its
own head index on, whichever index the request asked from (log 48); a TEXT entry becomes READY without its text
(log 49). -/
def State.headCompletion (s : State) (a : Aud) (e : EntryIx) (r : Request)
    (data : Option (List Byte)) : State :=
  match (s.aud a).window.awaitsMaterial e r.ordinal with
  | none => s
  | some c =>
    match data with
    | some bytes => s.entryReady a e { c with tableHead := readPacketDescs bytes }
    | none =>
      (s.freeEntries a [e]).report (Party.slot a) .major .fetchFault (some r.address) (some c.ordinal)

/-! ### Refill -/

/-- The non-ACTIVE entries: FETCHING, LOADING and READY (R53). -/
def Window.nonActive (w : Window) : Nat :=
  ((List.finRange 64).filter (fun e =>
    match w.entry e with
    | .free => false
    | .judged .active _ => false
    | _ => true)).length

/-- The lowest-numbered FREE entry (R56). -/
def Window.lowestFree (w : Window) : Option EntryIx :=
  (List.finRange 64).find? (fun e => (w.entry e).ordinal?.isNone)

/-- Condition 5 of R56: the reach is unknown, or below P + 12,000. -/
def withinReach (floor : Option Nat) (position : Nat) : Bool :=
  match floor with
  | none => true
  | some r => decide (r < position + 12000)

/-- The conditions of R56: the entry to take, the record at the cursor and its segment. -/
def Auditorium.refillPlan (x : Auditorium) : Option (EntryIx × Nat × Nat × Segment) :=
  match x.window.cursor with
  | none => none
  | some (sg, i) =>
    match x.window.lowestFree, x.programme.table[sg]? with
    | some e, some segment =>
      if x.window.state = .serving ∧ x.window.nonActive < 48
          ∧ withinReach x.programme.orderFloor x.tracker.est.ticks
          ∧ !(x.window.offers.any (fun r => decide (r.purpose = .cueRecord))) then
        some (e, sg, i, segment)
      else none
    | _, _ => none

/-- The cursor advanced past record i of segment s (R57). -/
def advanceCursor (sg i count : Nat) : Nat × Nat := if i + 1 = count then (sg + 1, 0) else (sg, i + 1)

/-- REFILL: where its conditions hold, the window takes a FREE entry into FETCHING, requests the record at
the cursor and advances the cursor (R56, R57; log 25). -/
def execRefill (a : Aud) (s : State) : Result :=
  match (s.aud a).refillPlan with
  | none => .next s
  | some (e, sg, i, segment) =>
    let ordinal := sg * 4096 + i
    let address := addrPlus segment.address (32 * i)
    let s := s.updWindow a (fun w =>
      { w.setEntry e (.fetching ordinal address none) with
        cursor := some (advanceCursor sg i segment.count) })
    .next (s.windowRequest a
      (s.programmeRequest a .cueRecord (.windowEntry e) (some ordinal) (some (s.seekGen a)) address 32
        .record))

/-! ### Leaves -/

/-- A leave event handed to the window (R66). -/
def State.handLeave (s : State) (a : Aud) (e : EntryIx) (ordinal : Nat) : State :=
  s.updWindow a (fun w => { w with leaves := w.leaves ++ [⟨e, ordinal⟩] })

/-! ### The seek search -/

/-- The search completes with the cursor placed (R70). -/
def State.completeSearch (s : State) (a : Aud) (target : Nat) (cursor : Nat × Nat) : State :=
  let s := s.updProgramme a (fun p => { p with orderFloor := none })
  s.updWindow a (fun w =>
    { w with
      search := none, cursor := some cursor, resumeBound := some target, rePlacing := true
      state := .serving })

/-- Probing goes on or ends (R69): a probe of the middle record while lo < hi, else the cursor's place. A probe
has no entry, and its request carries the ordinal of the record it reads (log 37) and the generation of the search
(R69; log 43). -/
def State.probeOn (s : State) (a : Aud) (q : Search) : State :=
  match (s.aud a).programme.table[q.segment]? with
  | none => s.completeSearch a q.target (q.segment, q.lo)
  | some segment =>
    if q.lo < q.hi then
      let mid := (q.lo + q.hi) / 2
      let s := s.updWindow a (fun w => { w with search := some { q with probe := some mid } })
      s.windowRequest a
        (s.programmeRequest a .probe .windowSearch (some (q.segment * 4096 + mid)) (some q.gen)
          (addrPlus segment.address (32 * mid)) 32 (.fixed 1))
    else if q.lo < segment.count then s.completeSearch a q.target (q.segment, q.lo)
    else s.completeSearch a q.target (q.segment + 1, 0)

/-- The first segment at or above the retire mark whose last start is at or above the search target, with
its index (R68). -/
def firstReaching (t : Nat) : List Segment → Nat → Option (Nat × Segment)
  | [], _ => none
  | g :: gs, k => if t ≤ g.lastTicks then some (k, g) else firstReaching t gs (k + 1)

/-- The search target fixed (R49, R68): RETIRED_SEEK where it is due, the target T, and the segment. -/
def State.fixTarget (s : State) (a : Aud) (q : Search) : State :=
  let p := (s.aud a).programme
  let s :=
    if p.retiredSeek q.target then s.report (Party.slot a) .minor .retiredSeek none none else s
  match p.retiredFloor with
  | none => s.completeSearch a q.target (p.table.length, 0)
  | some floor =>
    let t := max (q.target - Config.longestLife) floor
    match firstReaching t (p.table.drop p.retireMark) p.retireMark with
    | none => s.completeSearch a q.target (p.table.length, 0)
    | some (k, g) =>
      if t ≤ g.firstTicks then s.completeSearch a q.target (k, 0)
      else
        s.probeOn a
          { q with
            awaitsTable := false, searchTarget := t, segment := k, lo := 0, hi := g.count, probe := none }

/-- A probe's start, or its fault, narrows the bounds (R69). -/
def Search.narrow (q : Search) (mid : Nat) (start : Option Nat) : Search :=
  match start with
  | some v =>
    if q.searchTarget ≤ v then { q with hi := mid, probe := none }
    else { q with lo := mid + 1, probe := none }
  | none => { q with hi := mid, probe := none }

/-- A PROBE read completes (R41, R69). It is matched by the ordinal of the record probed (log 37). -/
def State.probeCompletion (s : State) (a : Aud) (r : Request) (data : Option (List Byte)) : State :=
  match (s.aud a).window.search with
  | none => s
  | some q =>
    match q.probe with
    | none => s
    | some mid =>
      if r.ordinal = some (q.segment * 4096 + mid) ∧ r.seekTag = some q.gen then
        let rate := (s.aud a).programme.editRate
        s.probeOn a (q.narrow mid (data.map (fun b => (readCueRecord b).start * tpf rate)))
      else s

/-- The ordinals of a window's ACTIVE entries of one kind, in window order. -/
def Window.activeOf (w : Window) (audio : Bool) : List (EntryIx × Nat) :=
  w.judgedOrder.filterMap (fun e =>
    match w.entry e with
    | .judged .active c =>
      if decide (c.kind = .audio) = audio then some (e, c.ordinal) else none
    | _ => none)

/-- The window's fields that a seek order or a teardown clears, its entries being FREE already (R67, R73). -/
def Window.cleared (w : Window) (st : WindowState) : Window :=
  { w with
    state := st, cursor := none, rePlacing := false, resumeBound := none, search := none, offers := []
    poolWait := [] }

/-- The window emptied: every entry FREE as one release, and the lists and marks cleared (R67, R73). -/
def State.emptyWindow (s : State) (a : Aud) (st : WindowState) : State :=
  (s.freeEntries a (s.aud a).window.held).updWindow a (fun w => w.cleared st)

/-- TABLE_READY: the table ready event is taken, and a search that awaits the table has its target fixed
(R36, R68). -/
def execTableReady (a : Aud) (s : State) : Result :=
  let w := (s.aud a).window
  if w.readyEvent then
    let s := s.updWindow a (fun w => { w with readyEvent := false, readyTaken := true })
    match w.search with
    | some q => if q.awaitsTable then .next (s.fixTarget a q) else .next s
    | none => .next s
  else .next s

end Sys2Proof.Machine
end

