-- ==== Sys2Proof/Machine/LaneEvents.lean ====
section
/-! DEFINITION. The events that other blocks hand to a lane, taken at once: dirty rows (R140), channel resets and
repeats (R142), replies (R144) and activation (R135); and a row leaving the lists when it is placed (R137). -/

namespace Sys2Proof.Machine

/-- A dirty event (R140): the pair joins the end of the dirty list unless it stands there. -/
def Lane.dirtyEvent (l : Lane) (c : Chan) (r : RowIx) : Lane :=
  if l.state = .off ∨ (c, r) ∈ l.dirty then l else { l with dirty := l.dirty ++ [(c, r)] }

/-- The forced-repeat set of a channel made all four rows, or emptied. -/
def Lane.setForced (l : Lane) (c : Chan) (v : Bool) : Lane :=
  { l with forced := l.forced.set c (Vector.replicate 4 v) }

/-- A channel reset event (R142). -/
def Lane.channelReset (l : Lane) (c : Chan) : Lane := if l.state = .off then l else l.setForced c false

/-- A repeat event (R142). -/
def Lane.repeatEvent (l : Lane) (c : Chan) : Lane := if l.state = .off then l else l.setForced c true

/-- An activation event (R135): SPARSE enters FULL, and the zero-audience count becomes 0. -/
def Lane.activation (l : Lane) : Lane :=
  match l.state with
  | .off => l
  | _ => { l with state := .full, zeroAudience := 0 }

/-- A ROW frame slot placed for a row takes it off the dirty list and out of its forced-repeat set (R137). -/
def Lane.rowPlaced (l : Lane) (c : Chan) (r : RowIx) : Lane :=
  { l with
    dirty := l.dirty.filter (fun x => decide (x ≠ (c, r)))
    forced := l.forced.set c (l.forced[c].set r false) }

/-- A reply event (R144): it joins the reply queue, or is discarded and counted when 8 stand there. -/
def State.replyEvent (s : State) (a : Aud) (r : Reply) : State :=
  let l := (s.aud a).lane
  if l.state = .off then s
  else if l.replies.length < 8 then s.updLane a (fun l => { l with replies := l.replies ++ [r] })
  else s.bump a .repliesDiscarded 1

/-- The lane on its start, in SPARSE (R133, R134). -/
def Lane.start : Lane := { Lane.reset with state := .sparse }

end Sys2Proof.Machine
end

