-- ==== Sys2Proof/Machine/Release.lean ====
section
/-! DEFINITION. The Release Unit (chapter 5): routing, takes and blanks of rows, the position check, the release of
TEXT and CLEAR cues, ends and misses, and the unit's orders, teardown and reconfiguration. -/

namespace Sys2Proof.Machine

/-! ### Pages -/

/-- A row of a page. -/
def State.row (s : State) (a : Aud) (c : Chan) (r : RowIx) : Row := (s.aud a).release.pages[c][r]

/-- A row's new content: its version rises by 1 (R96). -/
def Row.change (row : Row) (cells : Vector Cell 40) (owner : Option RowOwner) : Row :=
  ⟨cells, owner, row.version + 1⟩

/-- A row of a page replaced. -/
def Release.setRow (x : Release) (c : Chan) (r : RowIx) (row : Row) : Release :=
  { x with pages := x.pages.set c (x.pages[c].set r row) }

/-- A row taken or blanked (R96); the dirty event goes to the lane in the same event, where it is handed. -/
def State.changeRow (s : State) (a : Aud) (c : Chan) (r : RowIx) (cells : Vector Cell 40)
    (owner : Option RowOwner) (dirty : Bool) : State :=
  let s := s.updRelease a (fun x => x.setRow c r (x.pages[c][r].change cells owner))
  if dirty then s.updLane a (fun l => l.dirtyEvent c r) else s

/-- A row blanked under R96. -/
def State.blankRow (s : State) (a : Aud) (c : Chan) (r : RowIx) : State :=
  s.changeRow a c r Row.blankCells none true

/-- The kind of a channel as held. -/
def State.channelKind (s : State) (a : Aud) (c : Chan) : ChannelKind := (s.aud a).release.channels[c].kind

/-- The sixteen (channel, row) positions in ascending channel and row order (R96, R132). -/
def allRows : List (Chan × RowIx) :=
  (List.finRange 4).flatMap (fun c => (List.finRange 4).map (fun r => (c, r)))

/-- Every row of every TEXT channel blanked, in ascending channel and row order (R109, R111, R112). -/
def State.blankTextPages (s : State) (a : Aud) : State :=
  allRows.foldl (fun s x => if s.channelKind a x.1 = .text then s.blankRow a x.1 x.2 else s) s

/-- The rows a cue still owns are blanked, in ascending channel and row order (R106, R110). -/
def State.blankOwned (s : State) (a : Aud) (ordinal : Nat) : State :=
  allRows.foldl (fun s x =>
    match (s.row a x.1 x.2).owner with
    | some o => if o.ordinal = ordinal then s.blankRow a x.1 x.2 else s
    | none => s) s

/-! ### Routing and coverage -/

/-- A TEXT or CLEAR cue routes to a channel (R94). -/
def ChannelDescriptor.routesText (d : ChannelDescriptor) (c : EntryCue) : Bool :=
  decide (d.kind = .text) && c.trackMask.getLsbD d.track.val
    && decide (d.classCare &&& (c.classFlags ^^^ d.classMatch) = 0)

/-- The channels a TEXT or CLEAR cue routes to, ascending (R94). -/
def Release.textRoutes (x : Release) (c : EntryCue) : List Chan :=
  (List.finRange 4).filter (fun ch => x.channels[ch].routesText c)

/-- The rows a cue covers, ascending (R95). -/
def EntryCue.rows (c : EntryCue) : List RowIx :=
  (List.finRange 4).filter (fun r => decide (c.firstRow.val ≤ r.val ∧ r.val < c.firstRow.val + c.lines))

/-- The decoded cells of a cue's line for a channel, with the line that row `r` shows (R97). -/
def State.decodeLine (s : State) (d : ChannelDescriptor) (c : EntryCue) (r : RowIx) : Vector Cell 40 :=
  vofFn (fun j => decodeCell d (s.pool.textCell c.ordinal c.blocks (40 * (r.val - c.firstRow.val) + j.val)))

/-! ### Leaves of the unit -/

/-- The unit hands the window a leave and keeps the ordinal on its leaving list until the leave is taken
(R91, R103). -/
def State.releaseLeave (s : State) (a : Aud) (e : EntryIx) (ordinal : Nat) : State :=
  (s.handLeave a e ordinal).updRelease a (fun x =>
    { x with leaving := if ordinal ∈ x.leaving then x.leaving else x.leaving ++ [ordinal] })

/-- Whether a leave of the unit for the ordinal is still on its way. -/
def State.isLeaving (s : State) (a : Aud) (ordinal : Nat) : Bool :=
  (s.aud a).release.leaving.contains ordinal

/-! ### Release of a TEXT cue -/

/-- Whether a cue takes a row from its owner (R102). -/
def takesRow (owner : Option RowOwner) (c : EntryCue) : Bool :=
  match owner with
  | none => true
  | some o => keyBefore (o.start, o.ordinal) (c.start, c.ordinal)

/-- The rows placed for one TEXT cue (R102). The result counts the rows taken. -/
def State.placeRows (s : State) (a : Aud) (c : EntryCue) : State × Nat :=
  (((s.aud a).release.textRoutes c).flatMap (fun ch => c.rows.map (fun r => (ch, r)))).foldl
    (fun st x =>
      if takesRow (st.1.row a x.1 x.2).owner c then
        (st.1.changeRow a x.1 x.2
          (st.1.decodeLine (st.1.aud a).release.channels[x.1] c x.2) (some ⟨c.ordinal, c.start⟩) true,
          st.2 + 1)
      else st)
    (s, 0)

/-- A release with the bound U well past the start counts late (R104), unless it is a catch-up release or
the entry is resumed. -/
def State.judgeLate (s : State) (a : Aud) (c : EntryCue) (u : Nat) (catchUp : Bool) : State :=
  if c.start + 6 < u ∧ !catchUp ∧ !c.resumed then
    (s.bump a .late 1).report (Party.slot a) .minor .textLate none (some c.ordinal)
  else s

/-- A TEXT cue released (R102, R103, R104), with "slips" for a catch-up release (R100). -/
def State.releaseText (s : State) (a : Aud) (e : EntryIx) (c : EntryCue) (u : Nat) (catchUp : Bool) :
    State :=
  let s := if catchUp then s.bump a .slips 1 else s
  let placed := s.placeRows a c
  if 0 < placed.2 then
    let s := placed.1.updWindow a (fun w => w.setEntry e (.judged .active c))
    (s.bump a .cuesReleased 1).judgeLate a c u catchUp
  else if ((s.aud a).release.textRoutes c).isEmpty then placed.1.releaseLeave a e c.ordinal
  else (placed.1.bump a .superseded 1).releaseLeave a e c.ordinal

/-- A CLEAR cue released (R107): rows owned by cues that start at or before it are blanked. -/
def State.releaseClear (s : State) (a : Aud) (e : EntryIx) (c : EntryCue) (u : Nat) (catchUp : Bool) :
    State :=
  let s := if catchUp then s.bump a .slips 1 else s
  let s := (((s.aud a).release.textRoutes c).flatMap (fun ch => c.rows.map (fun r => (ch, r)))).foldl
    (fun s x =>
      match (s.row a x.1 x.2).owner with
      | some o => if o.start ≤ c.start then s.blankRow a x.1 x.2 else s
      | none => s) s
  ((s.bump a .cuesReleased 1).judgeLate a c u catchUp).releaseLeave a e c.ordinal

/-- A TEXT or CLEAR entry released. A resumed entry is never a catch-up release (R108); otherwise a release
is one where the walk or the entry's flag makes it one (R100). -/
def State.releaseEntry (s : State) (a : Aud) (e : EntryIx) (c : EntryCue) (u : Nat) (inCatchUp : Bool) :
    State :=
  let catchUp := (inCatchUp || c.catchUp) && !c.resumed
  match c.kind with
  | .clear => s.releaseClear a e c u catchUp
  | _ => s.releaseText a e c u catchUp

/-- A TEXT cue that leaves as missed (R105). -/
def State.missEntry (s : State) (a : Aud) (e : EntryIx) (c : EntryCue) : State :=
  ((s.releaseLeave a e c.ordinal).bump a .missed 1).report (Party.slot a) .major .cueMissed none
    (some c.ordinal)

/-- An ACTIVE TEXT entry ends (R106). -/
def State.endEntry (s : State) (a : Aud) (e : EntryIx) (c : EntryCue) : State :=
  (s.blankOwned a c.ordinal).releaseLeave a e c.ordinal

/-! ### The position check -/

/-- The release gate (R98). Condition 5 is tested for a check at a local tick or a ready event. Condition 2 is read as the
tracker stands, also while its hold order waits for the unit (log 50). -/
def Auditorium.releaseGate (x : Auditorium) (testCurrent : Bool) : Bool :=
  decide (x.state = .show)
    && (decide (x.tracker.state = .locked) || decide (x.tracker.state = .freewheel)
        || decide (x.tracker.state = .paused))
    && decide (x.window.state = .serving)
    && decide (x.release.windowGen = x.release.takenGen)
    && (!testCurrent || decide (x.release.takenGen = x.tracker.seekGen))

/-- Whether an entry is flagged by the re-placing tests of R71. -/
def EntryCue.flagged (c : EntryCue) : Bool := c.resumed || c.catchUp

/-- Whether a flagged entry is held back by a flagged TEXT or CLEAR entry before it in window order that is
still LOADING, or READY and not yet released (R108). An entry whose leave has been handed holds nothing
back. -/
def State.heldBack (s : State) (a : Aud) (c : EntryCue) : Bool :=
  c.flagged &&
    (List.finRange 64).any (fun e =>
      match (s.aud a).window.entry e with
      | .judged .active _ => false
      | .judged _ d =>
        decide (d.kind ≠ .audio) && d.flagged && keyBefore (d.start, d.ordinal) (c.start, c.ordinal)
          && !s.isLeaving a d.ordinal
      | _ => false)

/-- The READY TEXT or CLEAR cue of an entry that the check may still act on (R99). -/
def State.readyCue (s : State) (a : Aud) (e : EntryIx) : Option EntryCue :=
  match (s.aud a).window.entry e with
  | .judged .ready c => if c.kind ≠ .audio ∧ !s.isLeaving a c.ordinal then some c else none
  | _ => none

/-- Step 1 of a check (R99): ordinals that no entry holds any longer leave the leaving list. -/
def State.prune (s : State) (a : Aud) : State :=
  s.updRelease a (fun x => { x with leaving := x.leaving.filter (fun o => (s.aud a).window.holds o) })

/-- Step 3 for one entry (R99): an entry that starts at or before Q, or a resumed one whatever its start (R108). A
catch-up entry that starts after Q is left to the walk (log 21). -/
def State.pendingStep (u : Nat) (a : Aud) (s : State) (e : EntryIx) : State :=
  match s.readyCue a e with
  | none => s
  | some c =>
    if c.start ≤ (s.aud a).release.releasePoint ∨ c.resumed then
      if c.kind = .text ∧ c.finish ≤ u then s.missEntry a e c
      else if s.heldBack a c then s
      else s.releaseEntry a e c u false
    else s

/-- An item of a walk: an end (0) or a start (1) of an entry, with its key (tick, phase, start, ordinal). -/
structure WalkItem where
  tick : Nat
  phase : Nat
  start : Nat
  ordinal : Nat
  entry : EntryIx
  deriving DecidableEq, Repr

/-- The order of the items: by tick, ends before starts, then by (start, ordinal) (R99 step 4). -/
def WalkItem.before (x y : WalkItem) : Bool :=
  decide (x.tick < y.tick)
    || (decide (x.tick = y.tick)
        && (decide (x.phase < y.phase)
            || (decide (x.phase = y.phase) && keyBefore (x.start, x.ordinal) (y.start, y.ordinal))))

/-- Whether a tick lies in (q, u]. -/
def inRange (q u t : Nat) : Bool := decide (q < t) && decide (t ≤ u)

/-- The ends and starts of an entry that fall in (q, u]. -/
def walkItemsOf (w : Window) (q u : Nat) (e : EntryIx) : List WalkItem :=
  match w.entry e with
  | .judged _ c =>
    (if decide (c.kind = .text) && inRange q u c.finish then [⟨c.finish, 0, c.start, c.ordinal, e⟩] else [])
      ++ (if decide (c.kind ≠ .audio) && inRange q u c.start then [⟨c.start, 1, c.start, c.ordinal, e⟩]
          else [])
  | _ => []

/-- The items of a walk over (q, u] in their order. Whether an item acts is judged when its turn comes. -/
def walkItems (w : Window) (q u : Nat) : List WalkItem :=
  sortBy WalkItem.before ((List.finRange 64).flatMap (walkItemsOf w q u))

/-- One item of the walk (R99 step 4): the end of an entry ACTIVE by now, or the release of a READY one (log 22). -/
def State.walkStep (u : Nat) (inCatchUp : Bool) (a : Aud) (s : State) (i : WalkItem) : State :=
  if i.phase = 0 then
    match (s.aud a).window.entry i.entry with
    | .judged .active c => if s.isLeaving a c.ordinal then s else s.endEntry a i.entry c
    | _ => s
  else
    match s.readyCue a i.entry with
    | none => s
    | some c => if s.heldBack a c then s else s.releaseEntry a i.entry c u inCatchUp

/-- Step 5 for one entry (R99): a TEXT entry still LOADING or READY at its end leaves as missed. -/
def State.sweepStep (u : Nat) (a : Aud) (s : State) (e : EntryIx) : State :=
  match (s.aud a).window.entry e with
  | .judged .active _ => s
  | .judged _ c =>
    if c.kind = .text ∧ c.finish ≤ u ∧ !s.isLeaving a c.ordinal then s.missEntry a e c else s
  | _ => s

/-- Q becomes U where U is above it (R99). -/
def State.advancePoint (s : State) (a : Aud) (u : Nat) : State :=
  s.updRelease a (fun x => { x with releasePoint := max x.releasePoint u })

/-- The position check up to U (R99), with the catch-up walk of R100. -/
def State.positionCheck (s : State) (a : Aud) (u : Nat) (testCurrent : Bool) : State :=
  let s := s.prune a
  if !(s.aud a).releaseGate testCurrent then s.advancePoint a u
  else
    let q := (s.aud a).release.releasePoint
    let order := (s.aud a).window.judgedOrder
    let s := order.foldl (State.pendingStep u a) s
    let s := (walkItems (s.aud a).window q u).foldl (State.walkStep u (decide (q + 6 < u)) a) s
    let s := order.foldl (State.sweepStep u a) s
    s.advancePoint a u

/-- RELEASE_TICK_CHECK: a position check to P at a local tick in SHOW (R99). -/
def execReleaseTickCheck (a : Aud) (s : State) : Result :=
  if (s.aud a).state = .show then .next (s.positionCheck a (s.position a) true) else .next s

/-- RELEASE_READY_CHECK: the oldest ready event makes a position check to P (R99). -/
def execReleaseReadyCheck (a : Aud) (s : State) : Result :=
  match (s.aud a).release.readies with
  | [] => .next s
  | _ :: rest =>
    .next ((s.updRelease a (fun x => { x with readies := rest })).positionCheck a (s.position a) true)

/-! ### Orders -/

/-- RELEASE_CATCH_UP_ORDER: the unit's oldest order, a catch-up order, as a position check to its new P,
without condition 5 of the gate (R100). -/
def execReleaseCatchUpOrder (a : Aud) (s : State) : Result :=
  match (s.aud a).release.orders with
  | .catchUp _ newP :: rest =>
    .next ((s.updRelease a (fun x => { x with orders := rest })).positionCheck a newP false)
  | _ => .next s

/-- RELEASE_SEEK_ORDER: the unit's oldest order, a seek order (R109). -/
def execReleaseSeekOrder (a : Aud) (s : State) : Result :=
  match (s.aud a).release.orders with
  | .seek _ gen :: rest =>
    let s := (s.updRelease a (fun x => { x with orders := rest })).blankTextPages a
    .next (s.updRelease a (fun x => { x with takenGen := gen, releasePoint := s.position a }))
  | _ => .next s

/-- RELEASE_HOLD_ORDER: the unit's oldest order, a hold order (R111). -/
def execReleaseHoldOrder (a : Aud) (s : State) : Result :=
  match (s.aud a).release.orders with
  | .hold :: rest =>
    let s := (s.updRelease a (fun x => { x with orders := rest })).blankTextPages a
    let s := ((s.aud a).window.activeOf false).foldl (fun s x => s.releaseLeave a x.1 x.2) s
    .next (s.updRelease a (fun x => { x with releasePoint := s.position a }))
  | _ => .next s

/-- RELEASE_SEEK_HAND_OVER: the oldest seek hand-over of the window (R110). -/
def execReleaseSeekHandOver (a : Aud) (s : State) : Result :=
  match (s.aud a).release.handOvers with
  | [] => .next s
  | h :: rest =>
    let s := s.updRelease a (fun x => { x with handOvers := rest })
    let s := h.ordinals.foldl (fun s o => s.blankOwned a o) s
    .next (s.updRelease a (fun x => { x with leaving := [], windowGen := h.gen }))

/-! ### Reconfiguration and lifecycle points -/

/-- A channel's page blanked and its lane set reset at a reconfiguration; the dirty events are handed only
where the new kind is TEXT (R113). -/
def State.reconfigurePage (s : State) (a : Aud) (c : Chan) (newKind : ChannelKind) : State :=
  let s := (List.finRange 4).foldl
    (fun s r => s.changeRow a c r Row.blankCells none (decide (newKind = .text))) s
  s.updLane a (fun l => l.channelReset c)

/-- Whether a new descriptor is a reconfiguration: any field but the language code differs (R93). -/
def ChannelDescriptor.reconfigures (old new : ChannelDescriptor) : Bool :=
  decide ({ old with language := 0 } ≠ { new with language := 0 })

/-- The context at attach (R92). -/
def Release.attach (x : Release) (current : Gen) : Release :=
  { x with releasePoint := 0, takenGen := current, windowGen := current, leaving := [] }

/-- The descriptors on entering OFF take kind OFF (R92), and the leaving list is empty. -/
def Release.enterOff (x : Release) : Release :=
  { x with channels := vmap (fun d => { d with kind := .off }) x.channels, leaving := [] }

end Sys2Proof.Machine
end

