-- ==== Sys2Proof/Machine/Streams.lean ====
section
/-! DEFINITION. The Description Streamer (chapter 6): carriages and their completion, opening and preemption,
fetching ahead, the composition event's drops and offers, the unheard sweep, and the streamer's orders. -/

namespace Sys2Proof.Machine

/-! ### A stream context -/

/-- A stream context of an auditorium. -/
def State.stream (s : State) (a : Aud) (c : Chan) : Stream := (s.aud a).streamer.streams[c]

/-- The packet entries of all four queues together (R115). -/
def countPackets (v : Vector Stream 4) : Nat :=
  ((List.finRange 4).map (fun (c : Chan) => v[c].queue.length)).sum

/-- A stream context replaced, with the buffer count following the queues (R115). -/
def State.setStream (s : State) (a : Aud) (c : Chan) (x : Stream) : State :=
  s.updStreamer a (fun u =>
    let v := u.streams.set c x
    { u with streams := v, bufferCount := countPackets v })

/-- The presentation of packet `k` of a carriage (R115). -/
def Carriage.presentation (x : Carriage) (k : Nat) : Nat := x.start + 24 * k

/-- The fetch carriage, if any (R115). -/
def Stream.fetchCarriage (x : Stream) : Option Carriage :=
  match x.fetch with
  | none => none
  | some o => x.cues.find? (fun y => decide (y.ordinal = o))

/-- The carriages behind the fetch carriage in the cue list. With no fetch carriage there is none: the fetch has
gone past every carriage of the list (R118, R119). -/
def Stream.behindFetch (x : Stream) : List Carriage :=
  match x.fetch with
  | none => []
  | some o => (x.cues.dropWhile (fun y => decide (y.ordinal ≠ o))).drop 1

/-- The first index of a carriage that has not been requested or passed: its first index where the fetch
has not come to it, the next fetch index where it is the fetch carriage, and none left where the fetch has
gone past it. -/
def Stream.unfetchedFrom (x : Stream) (y : Carriage) : Nat :=
  if x.fetch = some y.ordinal then x.nextIndex
  else if x.behindFetch.any (fun z => decide (z.ordinal = y.ordinal)) then y.first
  else y.stop

/-- A carriage is complete when every index from its first to its last has been sent or dropped (R124). -/
def Stream.isComplete (x : Stream) (y : Carriage) : Bool :=
  decide (y.stop ≤ x.unfetchedFrom y) && x.queue.all (fun p => decide (p.ordinal ≠ y.ordinal))

/-- The next fetch index moved on: descriptors it passes leave the cache, and a cache it passes altogether
is empty with the next fetch index as its base (R120). -/
def Stream.moveTo (x : Stream) (n : Nat) : Stream :=
  let rest := x.cache.drop (n - x.cacheBase)
  { x with
    nextIndex := n
    cache := rest
    cacheBase := max x.cacheBase n }

/-- The descriptors of an entry's table head with indices at or above `first` (R118, R119). -/
def Window.headFrom (w : Window) (e : EntryIx) (ordinal first : Nat) : List PacketDesc :=
  match w.entry e with
  | .judged _ c => if c.ordinal = ordinal then c.tableHead.drop (first - c.head) else []
  | _ => []

/-- The fetch passes to a carriage, or to none (R119). Batch outstanding is left as it stands. -/
def Stream.passFetch (x : Stream) (w : Window) : Option Carriage → Stream
  | some y =>
    { x with
      fetch := some y.ordinal, nextIndex := y.first, cacheBase := y.first
      cache := w.headFrom y.entry y.ordinal y.first }
  | none => { x with fetch := none, nextIndex := 0, cacheBase := 0, cache := [] }

/-- Carriages leave the cue list; where the fetch carriage is among them the fetch passes to the next
carriage of the list that stays, if any (R119, R124). -/
def Stream.removeCarriages (x : Stream) (w : Window) (gone : Carriage → Bool) : Stream :=
  let kept := { x with cues := x.cues.filter (fun y => !gone y) }
  match x.fetchCarriage with
  | none => kept
  | some y => if gone y then kept.passFetch w ((x.behindFetch.filter (fun z => !gone z)).head?) else kept

/-- Packet entries of one cue leave the queue. -/
def Stream.removePackets (x : Stream) (ordinal : Nat) : Stream :=
  { x with queue := x.queue.filter (fun p => decide (p.ordinal ≠ ordinal)) }

/-- Whether any channel carries the entry of this ordinal. -/
def Streamer.carries (u : Streamer) (ordinal : Nat) : Bool :=
  (List.finRange 4).any (fun (c : Chan) => u.streams[c].cues.any (fun y => decide (y.ordinal = ordinal)))

/-- A leave handed for an entry that no channel carries (R118, R120, R124, R130). -/
def State.leaveIfUncarried (s : State) (a : Aud) (e : EntryIx) (ordinal : Nat) : State :=
  if (s.aud a).streamer.carries ordinal then s else s.handLeave a e ordinal

/-- A carriage completes (R124). -/
def State.completeCarriage (s : State) (a : Aud) (c : Chan) (y : Carriage) : State :=
  let s := s.setStream a c
    ((s.stream a c).removeCarriages (s.aud a).window (fun z => decide (z.ordinal = y.ordinal)))
  (s.bump a .streamsCompleted 1).leaveIfUncarried a y.entry y.ordinal

/-- What follows a change of a stream context: complete carriages complete one after another (R124), and the
fetch passes on when its carriage is fetched to its end (R119). Each round ends a carriage or moves the
fetch on, so that nine rounds are enough for the four carriages a list can hold. -/
def State.settleStream (s : State) (a : Aud) (c : Chan) : Nat → State
  | 0 => s
  | fuel + 1 =>
    let x := s.stream a c
    match x.cues.find? (fun y => x.isComplete y) with
    | some y => State.settleStream (s.completeCarriage a c y) a c fuel
    | none =>
      match x.fetchCarriage, x.behindFetch with
      | some y, z :: _ =>
        if y.stop ≤ x.nextIndex then
          State.settleStream (s.setStream a c (x.passFetch (s.aud a).window (some z))) a c fuel
        else s
      | _, _ => s

/-- The rounds that settle one context. -/
def settleRounds : Nat := 9

/-! ### Counting what is dropped -/

/-- AUDIO_LATE for a carriage that loses a packet as late, unless its late-reported or quiet flag is set
(R123 step 1). -/
def State.reportAudioLate (s : State) (a : Aud) (c : Chan) (y : Carriage) : State :=
  if y.lateReported ∨ y.quiet then s
  else
    let x := s.stream a c
    (s.setStream a c { x with cues := x.cues.map (fun z =>
      if z.ordinal = y.ordinal then { z with lateReported := true } else z) }).report
      (Party.slot a) .minor .audioLate none (some y.ordinal)

/-- How far the next fetch index passes over unfetched indices of the fetch carriage whose presentation is
below a bound: the first index, at most the carriage's stop, at or above the bound. -/
def Stream.passedTo (x : Stream) (bound : Nat) : Nat :=
  match x.fetchCarriage with
  | none => x.nextIndex
  | some y => max x.nextIndex (min y.stop (ceilDiv (bound - y.start) 24))

/-- Entries and unfetched indices dropped from a context, and the carriages that lost one. -/
structure Dropped where
  stream : Stream
  count : Nat
  losers : List Carriage
  deriving DecidableEq, Repr

/-- A context drops the queue entries that `gone` names and passes the unfetched indices of the fetch
carriage with a presentation from `lowest` to below `bound` (R123, R125, R126). Those count; an index below
`lowest` is passed with them, uncounted, and where none of them is left nothing is passed (log 20). The fetch carriage
is that of the event's beginning (log 52). -/
def Stream.drop (x : Stream) (gone : PacketEntry → Bool) (lowest bound : Nat) : Dropped :=
  let out := x.queue.filter gone
  let n := x.passedTo bound
  let passed := n - x.passedTo lowest
  let y := { x with queue := x.queue.filter (fun p => !gone p) }
  { stream := if passed = 0 then y else y.moveTo n
    count := out.length + passed
    losers := x.cues.filter (fun z =>
      out.any (fun p => decide (p.ordinal = z.ordinal))
        || (decide (0 < passed) && decide (x.fetch = some z.ordinal))) }

/-- Packets dropped late (R123, R125): counted, reported per carriage in the order of the cue list (log 47), and the
context settled. A carriage to which the fetch passes so keeps its unfetched indices, however low, until a later event
(the model's choice, log 52). -/
def State.dropLate (s : State) (a : Aud) (c : Chan) (gone : PacketEntry → Bool) (lowest bound : Nat) : State :=
  let d := (s.stream a c).drop gone lowest bound
  let s := (s.setStream a c d.stream).bump a .packetsLate d.count
  let s := d.losers.foldl (fun s y => s.reportAudioLate a c y) s
  s.settleStream a c settleRounds

/-- The unheard sweep of a channel against a value V (R126). A carriage to which the fetch passes so keeps its unfetched
indices until a later event (the model's choice, log 52). -/
def State.unheardSweep (s : State) (a : Aud) (c : Chan) (v : Nat) : State :=
  let d := (s.stream a c).drop (fun p => decide (p.presentation ≤ v + 240)) 0 (v + 241)
  ((s.setStream a c d.stream).bump a .packetsUnheard d.count).settleStream a c settleRounds

/-! ### Opening and preemption -/

/-- The stream gate (R117); condition 5 is not tested for the open check of a catch-up order (R125). Conditions 2 and 5
are read as the tracker stands, also while its order waits for the streamer (log 50). -/
def Auditorium.streamGate (x : Auditorium) (testCurrent : Bool) : Bool :=
  decide (x.state = .show)
    && (decide (x.tracker.state = .locked) || decide (x.tracker.state = .freewheel)
        || decide (x.tracker.state = .paused))
    && decide (x.window.state = .serving)
    && decide (x.streamer.windowGen = x.streamer.takenGen)
    && (!testCurrent || decide (x.streamer.takenGen = x.tracker.seekGen))

/-- The channels an AUDIO cue routes to, ascending (R118). -/
def Release.audioRoutes (x : Release) (c : EntryCue) : List Chan :=
  (List.finRange 4).filter (fun (ch : Chan) =>
    decide (x.channels[ch].kind = .audio) && c.trackMask.getLsbD x.channels[ch].track.val)

/-- The stop of a carriage cut at the start S of a new cue: the number of its packets presented below S, and
at most its old stop (R119). -/
def Carriage.cut (y : Carriage) (newStart : Nat) : Carriage :=
  { y with stop := min y.stop (ceilDiv (newStart - y.start) 24) }

/-- The packets of a carriage from index `from` on that have been neither sent nor dropped: those in the queue
and those never fetched (R119). -/
def Stream.remaining (x : Stream) (y : Carriage) (start : Nat) : Nat :=
  (x.queue.filter (fun p => decide (p.ordinal = y.ordinal ∧ start ≤ p.index))).length
    + (y.stop - max start (x.unfetchedFrom y))

/-- Every carriage of a list cut at S: its packets from the new stop on leave the queue (R119). -/
def Stream.cutAll (x : Stream) (newStart : Nat) : Stream :=
  { x with
    cues := x.cues.map (fun y => y.cut newStart)
    queue := x.queue.filter (fun p =>
      !(x.cues.any (fun y => decide (y.ordinal = p.ordinal ∧ (y.cut newStart).stop ≤ p.index)))) }

/-- Preemption by a cue that starts at S (R119): the cuts, the carriages left with nothing complete, and the
oldest of four carriages still there is ended. -/
def State.preempt (s : State) (a : Aud) (c : Chan) (newStart : Nat) : State :=
  let x := s.stream a c
  let lost := (x.cues.map (fun y => x.remaining y (y.cut newStart).stop)).sum
  let s := ((s.setStream a c (x.cutAll newStart)).bump a .packetsPreempted lost).settleStream a c settleRounds
  let x := s.stream a c
  match x.cues with
  | y :: rest =>
    if 3 ≤ rest.length then
      let s := (s.bump a .packetsPreempted (x.remaining y y.first)).setStream a c (x.removePackets y.ordinal)
      s.completeCarriage a c y
    else s
  | [] => s

/-- A carriage joins the end of a channel's cue list, and becomes the fetch carriage where there is none
(R118 step 4). -/
def State.joinCarriage (s : State) (a : Aud) (c : Chan) (y : Carriage) : State :=
  let x := s.stream a c
  let joined := { x with cues := x.cues ++ [y] }
  let joined := if x.fetch.isNone then joined.passFetch (s.aud a).window (some y) else joined
  (s.setStream a c joined).settleStream a c settleRounds

/-- One channel's part of an open (R118, steps 2 to 4). `catchUpOpen` says that the open is a catch-up open,
and `inOrder` that it is made within a catch-up order (log 19). Where the first index is above the cue's count
the skipped packets are those the cue has, from the head index to its count (log 39). -/
def State.openOnChannel (s : State) (a : Aud) (e : EntryIx) (cue : EntryCue) (inOrder catchUpOpen : Bool)
    (c : Chan) : State :=
  let first := max cue.head (firstTimely (s.position a) cue.start)
  let skipped := min first cue.count - cue.head
  let counts := !cue.flagged && !inOrder && decide (0 < skipped)
  let s :=
    if counts then
      (s.bump a .packetsLate skipped).report (Party.slot a) .minor .audioLate none (some cue.ordinal)
    else s
  if cue.count ≤ first then s.bump a .streamsCompleted 1
  else
    match (s.stream a c).cues.getLast? with
    | some current =>
      if cue.start < current.start then
        (s.bump a .packetsPreempted (cue.count - first)).bump a .streamsCompleted 1
      else
        (s.preempt a c cue.start).joinCarriage a c
          ⟨cue.ordinal, e, cue.start, first, cue.count, cue.flagged || catchUpOpen, counts⟩
    | none =>
      s.joinCarriage a c
        ⟨cue.ordinal, e, cue.start, first, cue.count, cue.flagged || catchUpOpen, counts⟩

/-- An AUDIO cue opened (R118). `range` is the range of the catch-up order within which the open is made. The
entry becomes ACTIVE where a carriage stands on a list; where none does, it leaves. -/
def State.openCue (s : State) (a : Aud) (e : EntryIx) (cue : EntryCue) (range : Option (Nat × Nat)) : State :=
  let routes := (s.aud a).release.audioRoutes cue
  if routes.isEmpty then s.handLeave a e cue.ordinal
  else
    let catchUpOpen := !cue.flagged
      && (match range with
          | some (q, u) => inRange q u cue.start
          | none => false)
    let s := if cue.catchUp || catchUpOpen then s.bump a .slips 1 else s
    let s := routes.foldl (fun s c => s.openOnChannel a e cue range.isSome catchUpOpen c) s
    if (s.aud a).streamer.carries cue.ordinal then
      s.updWindow a (fun w => w.setEntry e (.judged .active cue))
    else s.handLeave a e cue.ordinal

/-- Whether a leave for the entry stands in the window's list, so that the entry is opened no more (log 9). -/
def Window.leaveHanded (w : Window) (e : EntryIx) (ordinal : Nat) : Bool := w.leaves.contains ⟨e, ordinal⟩

/-- One entry of an open check (R117). -/
def State.openStep (a : Aud) (range : Option (Nat × Nat)) (s : State) (e : EntryIx) : State :=
  match (s.aud a).window.entry e with
  | .judged .ready c =>
    if c.kind = .audio ∧ c.start ≤ s.position a + 480 ∧ !(s.aud a).window.leaveHanded e c.ordinal then
      s.openCue a e c range
    else s
  | _ => s

/-- The open check (R117): READY AUDIO entries due within 480 ticks, in window order. -/
def State.openCheck (s : State) (a : Aud) (range : Option (Nat × Nat)) (testCurrent : Bool) : State :=
  if (s.aud a).streamGate testCurrent then
    (s.aud a).window.judgedOrder.foldl (State.openStep a range) s
  else s

/-- The AUDIO channels with no audience are swept at a local tick, while the tracker runs (R126). -/
def State.tickSweep (s : State) (a : Aud) : State :=
  if (s.aud a).tracker.state = .locked ∨ (s.aud a).tracker.state = .freewheel then
    (List.finRange 4).foldl
      (fun s c =>
        if s.channelKind a c = .audio ∧ s.audience a c = 0 then s.unheardSweep a c (s.position a + 24)
        else s) s
  else s

/-- STREAM_TICK_CHECK: an open check and an unheard sweep at a local tick in SHOW (R117, R126). The open check comes
first, so that the sweep of the same tick meets the cues it opens (the model's choice, log 51). -/
def execStreamTickCheck (a : Aud) (s : State) : Result :=
  if (s.aud a).state = .show then .next ((s.openCheck a none true).tickSweep a) else .next s

/-- STREAM_READY_OPEN: the oldest ready event makes an open check (R117). -/
def execStreamReadyOpen (a : Aud) (s : State) : Result :=
  match (s.aud a).streamer.readies with
  | [] => .next s
  | _ :: rest => .next ((s.updStreamer a (fun u => { u with readies := rest })).openCheck a none true)

/-! ### Fetching ahead -/

/-- Conditions 1, 2, 3 and 5 of R121: the fetch carriage where they hold. -/
def State.fetchDue (s : State) (a : Aud) (c : Chan) : Option Carriage :=
  let x := s.stream a c
  match x.fetchCarriage with
  | none => none
  | some y =>
    if (s.aud a).streamGate true ∧ 0 < s.audience a c ∧ x.nextIndex < y.stop
        ∧ y.presentation x.nextIndex ≤ s.position a + 480 then some y
    else none

/-- The first index beyond the cache, or the next fetch index where the cache is empty (R120). -/
def Stream.beyondCache (x : Stream) : Nat :=
  if x.cache.isEmpty then x.nextIndex else x.cacheBase + x.cache.length

/-- The packet table's address of an ACTIVE entry's cue. -/
def Window.tableOf (w : Window) (e : EntryIx) : HostAddr :=
  match w.entry e with
  | .judged _ c => c.reference
  | _ => 0

/-- TABLE_BATCH_REQUEST: where its conditions hold, the next batch of descriptors is requested (R120). -/
def execTableBatchRequest (a : Aud) (c : Chan) (s : State) : Result :=
  let x := s.stream a c
  match s.fetchDue a c with
  | none => .next s
  | some y =>
    let first := x.beyondCache
    if x.cache.length ≤ 8 ∧ first < y.stop ∧ !x.batchOut then
      let n := min (16 - x.cache.length) (y.stop - first)
      let s := s.setStream a c { x with batchOut := true }
      .next (s.streamerRequest a
        (s.programmeRequest a .audioList (.streamBatch c first) (some y.ordinal) (some (s.seekGen a))
          (addrPlus ((s.aud a).window.tableOf y.entry) (16 * first)) (16 * n)
          (.batch (y.presentation first))))
    else .next s

/-- A packet descriptor that is skipped (R121). -/
def PacketDesc.bad (d : PacketDesc) : Bool :=
  decide (d.address = 0) || decide (d.address.toNat % 8 ≠ 0) || decide (d.length < 16)
    || decide (240 < d.length)

/-- A packet entry put at its place by presentation (R115). -/
def insertPacket (p : PacketEntry) (q : List PacketEntry) : List PacketEntry :=
  insertBy (fun x y => decide (x.presentation < y.presentation)) p q

/-- PACKET_REQUEST: where its conditions hold, the next packet is requested, or skipped for a bad descriptor
(R121). -/
def execPacketRequest (a : Aud) (c : Chan) (s : State) : Result :=
  let x := s.stream a c
  match s.fetchDue a c with
  | none => .next s
  | some y =>
    if x.cacheBase ≤ x.nextIndex ∧ x.queue.length < 12 ∧ (s.aud a).streamer.bufferCount < 24 then
      match x.cache[x.nextIndex - x.cacheBase]? with
      | none => .next s
      | some d =>
        let k := x.nextIndex
        let moved := x.moveTo (k + 1)
        if d.bad then
          .next (((s.setStream a c moved).report (Party.slot a) .minor .audioFault
            (some (addrPlus ((s.aud a).window.tableOf y.entry) (16 * k))) (some y.ordinal)).settleStream a c
              settleRounds)
        else
          let s := s.setStream a c
            { moved with queue := insertPacket ⟨y.ordinal, k, y.presentation k, none⟩ moved.queue }
          let s := s.streamerRequest a
            (s.programmeRequest a .audioPacket (.streamPacket c k) (some y.ordinal) (some (s.seekGen a))
              d.address d.length (.packet (y.presentation k)))
          .next (s.settleStream a c settleRounds)
    else .next s

/-- A packet read completes (R122). -/
def State.packetCompletion (s : State) (a : Aud) (c : Chan) (k : Nat) (r : Request)
    (data : Option (List Byte)) : State :=
  let x := s.stream a c
  let mine : PacketEntry → Bool := fun p =>
    decide (some p.ordinal = r.ordinal ∧ p.index = k) && p.body.isNone
  if x.queue.any mine then
    match data with
    | some bytes =>
      s.setStream a c { x with queue := x.queue.map (fun p => if mine p then { p with body := some bytes } else p) }
    | none =>
      ((s.setStream a c { x with queue := x.queue.filter (fun p => !mine p) }).report (Party.slot a) .minor
        .audioFault (some r.address) r.ordinal).settleStream a c settleRounds
  else s

/-- A table batch completes for the fetch carriage it was made for (R120, R122). -/
def State.batchCompletion (s : State) (a : Aud) (c : Chan) (first : Nat) (r : Request)
    (data : Option (List Byte)) : State :=
  let x := { s.stream a c with batchOut := false }
  match x.fetchCarriage with
  | none => s.setStream a c x
  | some y =>
    if r.ordinal = some y.ordinal then
      match data with
      | some bytes =>
        s.setStream a c
          { x with
            cacheBase := if x.cache.isEmpty then max x.nextIndex first else x.cacheBase
            cache := x.cache ++ (readPacketDescs bytes).drop (x.nextIndex - first) }
      | none =>
        let gone := (x.removePackets y.ordinal).removeCarriages (s.aud a).window
          (fun z => decide (z.ordinal = y.ordinal))
        let s := (s.setStream a c gone).report (Party.slot a) .major .audioFault (some r.address)
          (some y.ordinal)
        (s.leaveIfUncarried a y.entry y.ordinal).settleStream a c settleRounds
    else s.setStream a c x

/-! ### The composition event -/

/-- Up to two HELD entries from the front of a queue whose presentation lies in B + 12..B + 240; an AWAITED
entry stops the offer (R123). -/
def Stream.offered (x : Stream) (b : Nat) : List PacketEntry :=
  (x.queue.takeWhile (fun p =>
    p.body.isSome && decide (b + 12 ≤ p.presentation) && decide (p.presentation ≤ b + 240))).take 2

/-- The late drops and the unheard sweeps of a composition event, channel by channel (R123, R126). The show state and the
gate are those of the event, so that nothing is done once the tracker has ordered a seek or a hold (log 50). -/
def State.composeStreams (s : State) (a : Aud) (b : Nat) (shown : ShowState) : State :=
  if shown = .running ∧ (s.aud a).streamGate true then
    (List.finRange 4).foldl
      (fun s c =>
        if s.channelKind a c = .audio then
          if 0 < s.audience a c then s.dropLate a c (fun p => decide (p.presentation < b + 12)) 0 (b + 12)
          else s.unheardSweep a c b
        else s) s
  else s

/-- The packets that a channel offers at a composition (R123): none outside RUNNING, with the gate closed, on
a channel that is not AUDIO, or with no audience. -/
def State.offersOf (s : State) (a : Aud) (b : Nat) (shown : ShowState) (c : Chan) : List PacketEntry :=
  if shown = .running ∧ (s.aud a).streamGate true ∧ s.channelKind a c = .audio ∧ 0 < s.audience a c then
    (s.stream a c).offered b
  else []

/-- A packet that the lane placed leaves its queue and counts as sent; its carriage is quiet no more, and is
complete where nothing of it is left (R123, R124). -/
def State.packetSent (s : State) (a : Aud) (c : Chan) (p : PacketEntry) : State :=
  let x := s.stream a c
  let y := { x with
    queue := x.queue.filter (fun q => decide (¬(q.ordinal = p.ordinal ∧ q.index = p.index)))
    cues := x.cues.map (fun z => if z.ordinal = p.ordinal then { z with quiet := false } else z) }
  ((s.setStream a c y).bump a .packetsSent 1).settleStream a c settleRounds

/-! ### Orders, teardown and reconfiguration -/

/-- Every stream context of the auditorium flushed, and the buffer count 0 (R127). -/
def Streamer.flush (u : Streamer) : Streamer :=
  { u with streams := Vector.replicate 4 Stream.reset, bufferCount := 0 }

/-- STREAM_SEEK_ORDER: the streamer's oldest order, a seek order (R127). -/
def execStreamSeekOrder (a : Aud) (s : State) : Result :=
  match (s.aud a).streamer.orders with
  | .seek _ gen :: rest =>
    .next (s.updStreamer a (fun u => { u.flush with orders := rest, offers := [], takenGen := gen }))
  | _ => .next s

/-- The carriages of one ordinal stop on every channel, with their packet entries, uncounted (R67, R127). -/
def State.stopOrdinal (s : State) (a : Aud) (ordinal : Nat) : State :=
  (List.finRange 4).foldl
    (fun s c =>
      s.setStream a c
        (((s.stream a c).removePackets ordinal).removeCarriages (s.aud a).window
          (fun y => decide (y.ordinal = ordinal)))) s

/-- STREAM_SEEK_HAND_OVER: the oldest seek hand-over of the window (R127). -/
def execStreamSeekHandOver (a : Aud) (s : State) : Result :=
  match (s.aud a).streamer.handOvers with
  | [] => .next s
  | h :: rest =>
    let s := s.updStreamer a (fun u => { u with handOvers := rest })
    let s := h.ordinals.foldl (fun s o => s.stopOrdinal a o) s
    .next (s.updStreamer a (fun u => { u with windowGen := h.gen }))

/-- STREAM_CATCH_UP_ORDER: the streamer's oldest order, a catch-up order (R125), which acts on the channels in
ascending order (log 47). -/
def execStreamCatchUpOrder (a : Aud) (s : State) : Result :=
  match (s.aud a).streamer.orders with
  | .catchUp oldP newP :: rest =>
    let s := s.updStreamer a (fun u => { u with orders := rest })
    let s := (List.finRange 4).foldl
      (fun s c =>
        if s.channelKind a c = .audio then
          s.dropLate a c (fun p => inRange oldP newP p.presentation) (oldP + 1) (newP + 1)
        else s) s
    .next (s.openCheck a (some (oldP, newP)) false)
  | _ => .next s

/-- STREAM_HOLD_ORDER: the streamer's oldest order, a hold order (R128). -/
def execStreamHoldOrder (a : Aud) (s : State) : Result :=
  match (s.aud a).streamer.orders with
  | .hold :: rest =>
    let s := s.updStreamer a (fun u => { u.flush with orders := rest })
    .next (((s.aud a).window.activeOf true).foldl (fun s x => s.handLeave a x.1 x.2) s)
  | _ => .next s

/-- A reconfigured channel whose old or new kind is AUDIO loses its carriages and their packets (R130). A
batch still out stays out, and its completion fails the match of R122 (log 10). -/
def State.reconfigureStream (s : State) (a : Aud) (c : Chan) : State :=
  let x := s.stream a c
  let s := s.setStream a c { Stream.reset with batchOut := x.batchOut }
  x.cues.foldl (fun s y => s.leaveIfUncarried a y.entry y.ordinal) s

/-- The streamer at attach (R116). -/
def Streamer.attach (u : Streamer) (current : Gen) : Streamer :=
  { u.flush with offers := [], takenGen := current, windowGen := current }

/-- The streamer on entering CLOSING or OFF (R116, R129). Departure events stay (log 46). -/
def Streamer.close (u : Streamer) : Streamer := { u.flush with offers := [] }

end Sys2Proof.Machine
end

