-- ==== Sys2Proof/Machine/SeekOrder.lean ====
section
/-! DEFINITION. The window's seek order (R67), its teardown (R73) and the leaves it takes (R66), which may act on the
Release Unit's pages and the streamer's contexts within the same event. -/

namespace Sys2Proof.Machine

/-- The seek hand-over events of the window: one to the Release Unit and one to the streamer (R110, R127). -/
def State.handOver (s : State) (a : Aud) (gen : Gen) (texts audios : List Nat) : State :=
  (s.updRelease a (fun x => { x with handOvers := x.handOvers ++ [⟨gen, texts⟩] })).updStreamer a
    (fun u => { u with handOvers := u.handOvers ++ [⟨gen, audios⟩] })

/-- A window in WAITING, SEEKING or SERVING takes a seek order (R67). Steps 2 and 3 act within this event, so
that no row and no carriage is left to a freed entry; the hand-over events then carry the generation and the
entries to the two blocks (log 8). The search awaits the table until the table ready event has been taken
(R68, R74; log 7). -/
def State.takeSeekOrder (s : State) (a : Aud) (o : SeekOrder) : State :=
  let w := (s.aud a).window
  let texts := (w.activeOf false).map Prod.snd
  let audios := (w.activeOf true).map Prod.snd
  let s := texts.foldl (fun s x => s.blankOwned a x) s
  let s := audios.foldl (fun s x => s.stopOrdinal a x) s
  let s := (s.emptyWindow a .seeking).handOver a o.gen texts audios
  let q : Search := ⟨o.target, o.gen, !w.readyTaken, 0, 0, 0, 0, none⟩
  let s := s.updWindow a (fun w => { w with search := some q })
  if w.readyTaken then s.fixTarget a q else s

/-- WINDOW_SEEK_ORDER: the window's oldest seek order is taken; a STOPPED window ignores it (R67). -/
def execWindowSeekOrder (a : Aud) (s : State) : Result :=
  match (s.aud a).window.orders with
  | [] => .next s
  | o :: rest =>
    let s := s.updWindow a (fun w => { w with orders := rest })
    if (s.aud a).window.state = .stopped then .next s else .next (s.takeSeekOrder a o)

/-! ### Leaves -/

/-- What a cue still has on the pages and the streams when a leave frees its ACTIVE entry: rows blanked and carriages
stopped in the same event, so that none is left to a freed entry (R67, R95). Only a leave that waited across a seek
finds any (log 41). -/
def State.clearCue (s : State) (a : Aud) (ordinal : Nat) : State :=
  let s := s.blankOwned a ordinal
  if (s.aud a).streamer.carries ordinal then s.stopOrdinal a ordinal else s

/-- An entry freed by a leave (R66), whatever its state. Behind one that is FETCHING its ordinal afresh the waiting
records are judged (R41), and one that is ACTIVE leaves no row and no carriage (log 41). -/
def State.leaveEntry (s : State) (a : Aud) (e : EntryIx) (ordinal : Nat) : State :=
  match (s.aud a).window.entry e with
  | .fetching _ _ _ => (s.freeEntries a [e]).judgeWaiting a 64
  | .judged .active _ => (s.clearCue a ordinal).freeEntries a [e]
  | _ => s.freeEntries a [e]

/-- WINDOW_LEAVE: the oldest leave is taken, and frees the entry if it still holds the ordinal (R66). -/
def execWindowLeave (a : Aud) (s : State) : Result :=
  match (s.aud a).window.leaves with
  | [] => .next s
  | l :: rest =>
    let s := s.updWindow a (fun w => { w with leaves := rest })
    if ((s.aud a).window.entry l.entry).ordinal? = some l.ordinal then
      .next (s.leaveEntry a l.entry l.ordinal)
    else .next s

/-! ### Teardown and attach -/

/-- The events of a show that has ended and that its window has not taken: a STOPPED window ignores a seek
order (R67, R74), a leave finds its entry FREE (R66), and the table ready event is of the old attach (R36;
log 11). Departure events stay, here as in the programme context and the streamer (log 46). -/
def Window.forget (w : Window) : Window :=
  { w with readyTaken := false, readyEvent := false, orders := [], leaves := [] }

/-- The auditorium's window, pages and streams emptied in one event, on entering CLOSING (R73, R112,
R129). -/
def State.flushShow (s : State) (a : Aud) : State :=
  let s := (s.emptyWindow a .stopped).updWindow a Window.forget
  let s := (s.blankTextPages a).updRelease a (fun x => { x with leaving := [] })
  s.updStreamer a Streamer.close

/-- The window at attach: WAITING, all entries FREE (R54). -/
def State.attachWindow (s : State) (a : Aud) : State :=
  (s.emptyWindow a .waiting).updWindow a Window.forget

end Sys2Proof.Machine
end

