-- ==== Sys2Proof/Machine/Lane.lean ====
section
/-! DEFINITION. The Lane Controller (chapter 7): frame events and compositions, the frame slot arbiter, the sweep
and the uplink intake. -/

namespace Sys2Proof.Machine

/-! ### The beacon -/

/-- The show state of a tracker state (R138). -/
def showState : TrackerState → ShowState
  | .idle => .stopped
  | .acquire => .stopped
  | .locked => .running
  | .freewheel => .running
  | .paused => .paused
  | .held => .held

/-- The beacon position B (R138). -/
def beaconPosition (t : Tracker) : Nat :=
  match showState t.state with
  | .stopped => 0
  | .running => min (t.est.ticks + 24) Config.maxPosition
  | .paused => t.est.ticks
  | .held => t.est.ticks

/-- The beacon of the frame being composed (R138). -/
def State.beacon (s : State) (a : Aud) : Beacon where
  auditorium := a
  frameNumber := (s.aud a).lane.frameNumber
  showState := showState (s.aud a).tracker.state
  sparse := decide ((s.aud a).lane.state = .sparse)
  position := beaconPosition (s.aud a).tracker
  channels := vofFn (fun c =>
    let d := (s.aud a).release.channels[c]
    ⟨d.kind, d.track, d.glyphMode, decide (d.kind = .audio) && !(s.stream a c).cues.isEmpty, d.language⟩)

/-! ### The arbiter -/

/-- A frame being composed: the machine, and what stands in frame slots 1..7 so far. -/
structure Composer where
  state : State
  slots : List FrameSlot

/-- Whether a frame slot is still free (R137). -/
def Composer.free (k : Composer) : Bool := decide (k.slots.length < 7)

/-- Whether a frame slot carries the row. -/
def FrameSlot.carries (f : FrameSlot) (c : Chan) (r : RowIx) : Bool :=
  match f with
  | .row c' r' _ _ => decide (c' = c ∧ r' = r)
  | _ => false

/-- A ROW frame slot: the row's cells and version as they stand; the row leaves the dirty list and its
forced-repeat set (R137). -/
def Composer.placeRow (k : Composer) (a : Aud) (c : Chan) (r : RowIx) : Composer :=
  if k.free then
    let row := k.state.row a c r
    ⟨k.state.updLane a (fun l => l.rowPlaced c r), k.slots ++ [.row c r row.version row.cells]⟩
  else k

/-- An AUDIO frame slot for an offered packet, of which the streamer is told (R123, R139). -/
def Composer.placePacket (k : Composer) (a : Aud) (c : Chan) (p : PacketEntry) : Composer :=
  if k.free then
    ⟨k.state.packetSent a c p,
      k.slots ++ [.audio c (BitVec.ofNat 16 p.ordinal) p.index p.presentation (p.body.getD [])]⟩
  else k

/-- The four row versions of a reply (R144). -/
def State.replyVersions (s : State) (a : Aud) (r : Reply) : Vector (BitVec 8) 4 :=
  if h : r.channelArg.toNat < 4 then vofFn (fun i => (s.row a ⟨r.channelArg.toNat, h⟩ i).version)
  else Vector.replicate 4 0

/-- A REPLY frame slot for the oldest reply (R144). -/
def Composer.placeReply (k : Composer) (a : Aud) : Composer :=
  if k.free then
    match (k.state.aud a).lane.replies with
    | [] => k
    | r :: rest =>
      ⟨k.state.updLane a (fun l => { l with replies := rest }),
        k.slots ++ [.reply r (k.state.replyVersions a r)]⟩
  else k

/-- Whether a channel's rows are sent: it is TEXT and has an audience (R137, R145). -/
def State.rowsHeard (s : State) (a : Aud) (c : Chan) : Bool :=
  decide (s.channelKind a c = .text) && decide (0 < s.audience a c)

/-- A position of the refresh rotation as a (channel, row) pair (R132). -/
def positionRow (i : Fin 16) : Chan × RowIx :=
  (⟨i.val / 4, by omega⟩, ⟨i.val % 4, by omega⟩)

/-- The first position from the cursor onwards that is not passed over (R145). -/
def Composer.nextRefresh (k : Composer) (a : Aud) : Option (Fin 16) :=
  ((List.finRange 16).map (fun i => (k.state.aud a).lane.refresh + i)).find? (fun i =>
    let x := positionRow i
    k.state.rowsHeard a x.1 && !k.slots.any (fun f => f.carries x.1 x.2))

/-- One frame slot of the refresh rotation (R145). -/
def Composer.placeRefresh (k : Composer) (a : Aud) : Composer :=
  if k.free then
    match k.nextRefresh a with
    | none => k
    | some i =>
      let k := k.placeRow a (positionRow i).1 (positionRow i).2
      ⟨k.state.updLane a (fun l => { l with refresh := i + 1 }), k.slots⟩
  else k

/-- A step of the arbiter taken for each of the seven frame slots. -/
def sevenTimes (f : Composer → Composer) (k : Composer) : Composer :=
  (List.range 7).foldl (fun k _ => f k) k

/-! ### Composition -/

/-- Step 1 of a composition (R137): the rows of channels that nobody reads leave the lists. -/
def State.pruneLane (s : State) (a : Aud) : State :=
  s.updLane a (fun l =>
    { l with
      dirty := l.dirty.filter (fun x => s.rowsHeard a x.1)
      forced := vofFn (fun c => if s.rowsHeard a c then l.forced[c] else Vector.replicate 4 false) })

/-- The offered packets in the order of the two rounds (R139). -/
def roundOrder (offers : Chan → List PacketEntry) : List (Chan × PacketEntry) :=
  (List.finRange 4).filterMap (fun c => ((offers c)[0]?).map (fun p => (c, p)))
    ++ (List.finRange 4).filterMap (fun c => ((offers c)[1]?).map (fun p => (c, p)))

/-- Level 0 (R139): the composition event is handed to the streamer, and its offers are placed in FULL. -/
def State.composeAudio (s : State) (a : Aud) (b : Nat) (shown : ShowState) (full : Bool) : Composer :=
  let s := s.composeStreams a b shown
  if full then
    (roundOrder (s.offersOf a b shown)).foldl (fun k x => k.placePacket a x.1 x.2) ⟨s, []⟩
  else ⟨s, []⟩

/-- Level 1 (R141): the dirty list, oldest first. -/
def Composer.placeDirty (k : Composer) (a : Aud) : Composer :=
  (k.state.aud a).lane.dirty.foldl (fun k x => k.placeRow a x.1 x.2) k

/-- The rows of the forced-repeat sets, in ascending channel and row order (R143). -/
def Lane.forcedRows (l : Lane) : List (Chan × RowIx) := allRows.filter (fun x => l.forced[x.1][x.2])

/-- The second half of level 2 (R143): forced-repeat rows. -/
def Composer.placeForced (k : Composer) (a : Aud) : Composer :=
  (k.state.aud a).lane.forcedRows.foldl (fun k x => k.placeRow a x.1 x.2) k

/-- A frame composed (R137): the machine after it, and the frame's eight frame slots. -/
def State.composeFrame (s : State) (a : Aud) : State × List FrameSlot :=
  let full := decide ((s.aud a).lane.state = .full)
  let s := s.pruneLane a
  let beacon := s.beacon a
  let k := s.composeAudio a beacon.position beacon.showState full
  let k := if full then k.placeDirty a else k
  let k := sevenTimes (fun k => k.placeReply a) k
  let k := if full then sevenTimes (fun k => k.placeRefresh a) (k.placeForced a) else k
  (k.state, .beacon beacon :: (k.slots ++ List.replicate (7 - k.slots.length) .empty))

/-- The steps of a lane frame event (R136). -/
def State.frameEvent (s : State) (a : Aud) : State :=
  let s := s.updLane a (fun l =>
    { l with onAir := l.held, held := none, frameNumber := l.frameNumber + 1 })
  let l := (s.aud a).lane
  if l.state = .full ∨ l.frameNumber.toNat % 10 = 0 then
    let composed := s.composeFrame a
    composed.1.updLane a (fun l => { l with held := some composed.2 })
  else s

/-- LANE_FRAME (R136); a lane in OFF does not act (R134). -/
def execLaneFrame (a : Aud) (s : State) : Result :=
  if (s.aud a).lane.state = .off then .next s else .next (s.frameEvent a)

/-! ### Sweep and intake -/

/-- The total audience of an auditorium's four channels (R135). -/
def State.totalAudience (s : State) (a : Aud) : Nat := ((List.finRange 4).map (fun c => s.audience a c)).sum

/-- The sweep's count towards SPARSE, in FULL (R135). -/
def Lane.countEmpty (l : Lane) (audience : Nat) : Lane :=
  match l.state with
  | .full =>
    if audience = 0 then
      if 30 ≤ l.zeroAudience + 1 then { l with state := .sparse, zeroAudience := 0 }
      else { l with zeroAudience := l.zeroAudience + 1 }
    else { l with zeroAudience := 0 }
  | _ => l

/-- The overflow report of a sweep (R149). -/
def State.reportOverflow (s : State) (a : Aud) : State :=
  if (s.aud a).lane.overflow then
    (s.updLane a (fun l => { l with overflow := false })).report (Party.slot a) .minor .uplinkOverflow none
      none
  else s

/-- LANE_SWEEP (R135, R149); a lane in OFF does not act (R134). -/
def execLaneSweep (a : Aud) (s : State) : Result :=
  if (s.aud a).lane.state = .off then .next s
  else .next ((s.updLane a (fun l => l.countEmpty (s.totalAudience a))).reportOverflow a)

/-- The first three tests of R147: check, device id, kind. -/
def readUplink (m : Vector Byte 8) : Option UplinkMessage :=
  if m[7] = checkSum m ∧ uplinkDevice m ≠ 0 ∧ uplinkDevice m ≠ 0xFFFFFFFF#32 then
    (uplinkKind m[4]).map (fun k => ⟨uplinkDevice m, k, m[5]⟩)
  else none

/-- UPLINK_ARRIVAL: the message joins the intake, or is discarded and counted (R147); a full intake sets the
overflow flag (R149). -/
def execUplinkArrival (a : Aud) (m : Vector Byte 8) (s : State) : Result :=
  let l := (s.aud a).lane
  if l.state = .off then .next s
  else
    match readUplink m with
    | none => .next (s.bump a .uplinkDiscarded 1)
    | some u =>
      if 8 ≤ l.intake.length then
        .next ((s.bump a .uplinkDiscarded 1).updLane a (fun l => { l with overflow := true }))
      else .next (s.updLane a (fun l => { l with intake := l.intake ++ [u] }))

end Sys2Proof.Machine
end

