-- ==== Sys2Proof/Machine/Devices.lean ====
section
/-! DEFINITION. The Device Table (chapter 8): the arbiter over the intakes, the four messages, the silence sweep,
closed channels and auditoriums leaving, and the site's thresholds. -/

namespace Sys2Proof.Machine

/-! ### Entries and counts -/

/-- An audience count changed. -/
def DeviceTable.setAudience (t : DeviceTable) (a : Aud) (c : Chan) (n : Nat) : DeviceTable :=
  { t with audience := t.audience.set a (t.audience[a].set c n) }

/-- An entry leaving ACTIVE lowers its channel's count, if it was ACTIVE (R153). -/
def DeviceTable.uncount (t : DeviceTable) (d : Option Device) : DeviceTable :=
  match d with
  | some d =>
    if d.status = .active then t.setAudience d.auditorium d.channel (t.audience[d.auditorium][d.channel] - 1)
    else t
  | none => t

/-- An entry entering ACTIVE raises its channel's count, if it is ACTIVE now (R153). -/
def DeviceTable.count (t : DeviceTable) (d : Option Device) : DeviceTable :=
  match d with
  | some d =>
    if d.status = .active then t.setAudience d.auditorium d.channel (t.audience[d.auditorium][d.channel] + 1)
    else t
  | none => t

/-- An entry changed, and the counts with it in the same event (R153). -/
def DeviceTable.put (t : DeviceTable) (i : Fin 1024) (d : Option Device) : DeviceTable :=
  let t := t.uncount t.entries[i]
  let t := t.count d
  { t with entries := t.entries.set i d }

/-- The lowest-numbered entry that a test holds for. -/
def DeviceTable.lowest (t : DeviceTable) (test : Option Device → Bool) : Option (Fin 1024) :=
  match t.entries.toList.findIdx? test with
  | some i => if h : i < 1024 then some ⟨i, h⟩ else none
  | none => none

/-- Whether an entry is a device's. -/
def ownedBy (id : BitVec 32) (d : Option Device) : Bool :=
  match d with
  | some d => decide (d.id = id)
  | none => false

/-- The entry of a known device (R151). -/
def DeviceTable.find (t : DeviceTable) (id : BitVec 32) : Option (Fin 1024) := t.lowest (ownedBy id)

/-- The silence of a QUIET entry. -/
def quietSilence (d : Option Device) : Option Nat :=
  match d with
  | some d => if d.status = .active then none else some d.silence
  | none => none

/-- The greatest silence among the QUIET entries (R158). -/
def DeviceTable.greatestSilence (t : DeviceTable) : Option Nat :=
  (t.entries.toList.filterMap quietSilence).max?

/-- The entry an unknown id takes: the lowest-numbered FREE one, or else the lowest-numbered of the QUIET ones
of greatest silence, which is evicted (R158). -/
def DeviceTable.roomFor (t : DeviceTable) : Option (Fin 1024) :=
  match t.lowest Option.isNone with
  | some i => some i
  | none =>
    match t.greatestSilence with
    | some n => t.lowest (fun d => decide (quietSilence d = some n))
    | none => none

/-! ### Taking messages -/

/-- The next message by the arbiter over the intakes (R155): the oldest of the first intake that holds one,
from the auditorium after the intake pointer. -/
def State.nextMessage (s : State) : Option (Aud × UplinkMessage) :=
  (turnOrder s.devices.intakePointer).findSome? (fun a =>
    match (s.aud a).lane.intake with
    | [] => none
    | m :: _ => some (a, m))

/-- The message taken out of its intake, and the intake pointer moved (R148, R155). -/
def State.popMessage (s : State) (a : Aud) : State :=
  let s := s.updLane a (fun l => { l with intake := l.intake.drop 1 })
  { s with devices := { s.devices with intakePointer := a } }

/-- An entry of the table changed. -/
def State.putDevice (s : State) (i : Fin 1024) (d : Option Device) : State :=
  { s with devices := s.devices.put i d }

/-- The three events of an accepted JOIN (R159). -/
def State.acceptJoin (s : State) (a : Aud) (c : Chan) (m : UplinkMessage) : State :=
  let s := s.updLane a Lane.activation
  let s := s.updLane a (fun l => l.repeatEvent c)
  s.replyEvent a ⟨m.device, .accepted, m.channelArg⟩

/-- The channel a JOIN names, if it is open: an argument of 0..3 and a kind other than OFF (R156). -/
def State.openChannel (s : State) (a : Aud) (m : UplinkMessage) : Option Chan :=
  if h : m.channelArg.toNat < 4 then
    if s.channelKind a ⟨m.channelArg.toNat, h⟩ = .off then none else some ⟨m.channelArg.toNat, h⟩
  else none

/-- A JOIN taken (R156 to R159). -/
def State.takeJoin (s : State) (a : Aud) (m : UplinkMessage) : State :=
  match s.openChannel a m with
  | none => s.replyEvent a ⟨m.device, .channelClosed, m.channelArg⟩
  | some c =>
    let d : Device := ⟨m.device, a, c, 0, .active⟩
    match s.devices.find m.device with
    | some i => (s.putDevice i (some d)).acceptJoin a c m
    | none =>
      match s.devices.roomFor with
      | some i => (s.putDevice i (some d)).acceptJoin a c m
      | none =>
        (s.replyEvent a ⟨m.device, .tableFull, m.channelArg⟩).report (Party.slot a) .minor .deviceTableFull
          none none

/-- The entry of a device known on its own lane (R151). -/
def State.ownEntry (s : State) (a : Aud) (m : UplinkMessage) : Option (Fin 1024 × Device) :=
  match s.devices.find m.device with
  | none => none
  | some i =>
    match s.devices.entries[i] with
    | some d => if d.auditorium = a then some (i, d) else none
    | none => none

/-- An ALIVE on its own lane (R160). -/
def State.aliveEntry (s : State) (a : Aud) (i : Fin 1024) (d : Device) : State :=
  match d.status with
  | .active => s.putDevice i (some { d with silence := 0 })
  | .quietClosed => s.putDevice i (some { d with silence := 0 })
  | .quietSilent =>
    (s.putDevice i (some { d with silence := 0, status := .active })).updLane a Lane.activation

/-- An ALIVE taken (R160, R163). -/
def State.takeAlive (s : State) (a : Aud) (m : UplinkMessage) : State :=
  match s.ownEntry a m with
  | some (i, d) => s.aliveEntry a i d
  | none => s.bump a .stray 1

/-- A REPEAT taken (R161, R163). -/
def State.takeRepeat (s : State) (a : Aud) (m : UplinkMessage) : State :=
  match s.ownEntry a m with
  | some (i, d) =>
    let s := s.aliveEntry a i d
    if d.status = .quietClosed then s else s.updLane a (fun l => l.repeatEvent d.channel)
  | none => s.bump a .stray 1

/-- A LEAVE taken (R162, R163). -/
def State.takeLeave (s : State) (a : Aud) (m : UplinkMessage) : State :=
  match s.ownEntry a m with
  | some (i, _) => s.putDevice i none
  | none => s.bump a .stray 1

/-- JOIN: the table takes the next message where it is a JOIN (R155, R157). -/
def execJoin (s : State) : Result :=
  match s.nextMessage with
  | some (a, m) => if m.kind = .join then .next ((s.popMessage a).takeJoin a m) else .next s
  | none => .next s

/-- ALIVE: the table takes the next message where it is an ALIVE (R155, R160). -/
def execAlive (s : State) : Result :=
  match s.nextMessage with
  | some (a, m) => if m.kind = .alive then .next ((s.popMessage a).takeAlive a m) else .next s
  | none => .next s

/-- REPEAT: the table takes the next message where it is a REPEAT (R155, R161). -/
def execRepeatRows (s : State) : Result :=
  match s.nextMessage with
  | some (a, m) => if m.kind = .repeatRows then .next ((s.popMessage a).takeRepeat a m) else .next s
  | none => .next s

/-- LEAVE: the table takes the next message where it is a LEAVE (R155, R162). -/
def execLeave (s : State) : Result :=
  match s.nextMessage with
  | some (a, m) => if m.kind = .leave then .next ((s.popMessage a).takeLeave a m) else .next s
  | none => .next s

/-! ### Silence -/

/-- One entry at the one-second sweep (R164). -/
def sweepEntry (quiet release : Nat) (d : Option Device) : Option Device :=
  match d with
  | none => none
  | some d =>
    let n := min (d.silence + 1) 65535
    if release ≤ n then none
    else if d.status = .active ∧ quiet ≤ n then some { d with silence := n, status := .quietSilent }
    else some { d with silence := n }

/-- Whether an entry is ACTIVE. -/
def isActive (d : Option Device) : Bool :=
  match d with
  | some d => decide (d.status = .active)
  | none => false

/-- Every entry changed by one function, which makes no entry ACTIVE that was not: the counts fall by the
entries that leave ACTIVE (R153). -/
def DeviceTable.quieten (t : DeviceTable) (f : Option Device → Option Device) : DeviceTable :=
  let counted := (t.entries.toList.filter (fun d => isActive d && !isActive (f d))).foldl
    (fun t d => t.uncount d) t
  { counted with entries := vmap f t.entries }

/-- DEVICE_SWEEP (R164). -/
def execDeviceSweep (s : State) : Result :=
  .next { s with devices :=
    s.devices.quieten (sweepEntry s.devices.quietThreshold s.devices.releaseThreshold) }

/-! ### Closed channels, leaving auditoriums and thresholds -/

/-- An entry of a channel whose kind has changed (R165). -/
def closeEntry (a : Aud) (c : Chan) (d : Option Device) : Option Device :=
  match d with
  | some d => if d.auditorium = a ∧ d.channel = c then some { d with status := .quietClosed } else some d
  | none => none

/-- A change of a channel's kind (R165). -/
def State.closeChannel (s : State) (a : Aud) (c : Chan) : State :=
  { s with devices := s.devices.quieten (closeEntry a c) }

/-- An entry of an auditorium that goes to OFF (R166). -/
def freeEntry (a : Aud) (d : Option Device) : Option Device :=
  match d with
  | some d => if d.auditorium = a then none else some d
  | none => none

/-- An auditorium's devices freed on entering OFF (R166). -/
def State.freeDevices (s : State) (a : Aud) : State :=
  { s with devices := s.devices.quieten (freeEntry a) }

/-- The thresholds taken from a site request, each value changed reporting once (R154). -/
def State.takeThresholds (s : State) (r : SiteRequest) : State :=
  let quiet := max 2 (min 60 r.quiet)
  let clamped := max 10 (min 600 r.release)
  let release := if clamped ≤ quiet then quiet + 1 else clamped
  let s := { s with devices := { s.devices with quietThreshold := quiet, releaseThreshold := release } }
  let s := if quiet = r.quiet then s else s.report Party.site .minor .configClamped none none
  if release = r.release then s else s.report Party.site .minor .configClamped none none

end Sys2Proof.Machine
end

