-- ==== Sys2Proof/Machine/Tracker.lean ====
section
/-! DEFINITION. The Position Tracker (chapter 1): the line receiver, arrivals, the local tick, loss and hold, and
the orders the tracker hands on. -/

namespace Sys2Proof.Machine

/-! ### The estimate -/

/-- The estimate in units of 2^-16 tick. -/
def Est.units (e : Est) : Nat := e.ticks * 65536 + e.frac

/-- The estimate of a number of units. -/
def Est.ofUnits (u : Nat) : Est := ⟨u / 65536, u % 65536⟩

/-- round(est): halves upward (R9). -/
def Est.rounded (e : Est) : Nat := if 32768 ≤ e.frac then e.ticks + 1 else e.ticks

/-- The estimate moved by a signed number of units, with carry or borrow (R10, R18). -/
def Est.shift (e : Est) (units : Int) : Est := Est.ofUnits ((e.units : Int) + units).toNat

/-! ### What an event of the context comes to -/

/-- The outcome of an arrival or a tick: the new context, the order handed on, and the counts of the
auditorium's "slips" and "seeks" (R15, R19, R20). -/
structure TrackerEvent where
  tracker : Tracker
  order : Option TrackerOrder
  slips : Nat
  seeks : Nat
  deriving DecidableEq, Repr

/-- An event that hands on nothing and counts nothing. -/
def TrackerEvent.quiet (t : Tracker) : TrackerEvent := ⟨t, none, 0, 0⟩

/-- est set, the seek generation raised, "seeks" counted and the seek ordered (R15, R20). -/
def Tracker.orderSeek (t : Tracker) (position : Nat) : TrackerEvent :=
  let g := t.seekGen + 1
  ⟨{ t with est := ⟨position, 0⟩, seekGen := g }, some (.seek position g), 0, 1⟩

/-- Entering HELD (R25): est as it stands, both timers stopped, repeat 0, and a hold order. -/
def Tracker.enterHeld (t : Tracker) : TrackerEvent :=
  ⟨{ t with state := .held, lossTimer := none, holdTimer := none, repeats := 0 }, some .hold, 0, 0⟩

/-! ### Arrivals -/

/-- A valid arrival in IDLE or HELD (R13). -/
def Tracker.enterAcquire (t : Tracker) (position : Nat) : TrackerEvent :=
  .quiet { t with
    state := .acquire, agree := 1, lastTc := some position, repeats := 0
    lossTimer := some 0, holdTimer := none }

/-- The placement of R15: a running agreement gives LOCKED, a still one PAUSED. -/
def Tracker.place (t : Tracker) (position : Nat) (running : Bool) : TrackerEvent :=
  { t with
    state := if running then .locked else .paused
    repeats := if running then 0 else 2 }.orderSeek position

/-- A valid arrival in ACQUIRE (R14). -/
def Tracker.arriveAcquire (t : Tracker) (position frame : Nat) : TrackerEvent :=
  let d : Int := (position : Int) - ((t.lastTc.getD 0 : Nat) : Int)
  let running := t.lastTc.isSome && decide (d = (frame : Int))
  let still := t.lastTc.isSome && decide (d = 0)
  let agree := if running || still then t.agree + 1 else 1
  let t := { t with agree := agree, lastTc := some position, lossTimer := some 0 }
  if 3 ≤ agree then t.place position running else .quiet t

/-- The repeat case (R17). -/
def Tracker.repeatCase (t : Tracker) (position : Nat) : TrackerEvent :=
  if t.repeats + 1 < 2 then .quiet { t with repeats := t.repeats + 1 }
  else .quiet { t with state := .paused, repeats := 2, est := ⟨position, 0⟩ }

/-- The slew case (R18), with trim stepped as R12 says. -/
def Tracker.slewCase (t : Tracker) (error : Int) : TrackerEvent :=
  .quiet { t with
    est := t.est.shift (error * 16384)
    trim :=
      if 2 ≤ error then min (t.trim + 1) 64
      else if error ≤ -2 then max (t.trim - 1) (-64)
      else t.trim }

/-- The catch-up case (R19). -/
def Tracker.catchUpCase (t : Tracker) (position : Nat) : TrackerEvent :=
  ⟨{ t with est := ⟨position, 0⟩ }, some (.catchUp t.est.ticks position), 1, 0⟩

/-- The case an arrival falls in, by its error (R16). -/
def Tracker.classify (t : Tracker) (position : Nat) : TrackerEvent :=
  let error : Int := (position : Int) - (t.est.rounded : Int)
  let common := { t with state := .locked, lossTimer := some 0, holdTimer := none }
  if t.lastTc = some position then common.repeatCase position
  else
    let fresh := { common with repeats := 0, lastTc := some position }
    if -6 ≤ error ∧ error ≤ 6 then fresh.slewCase error
    else if 6 < error ∧ error ≤ (t.catchUpLimit : Int) then fresh.catchUpCase position
    else fresh.orderSeek position

/-- A valid arrival in PAUSED (R21). -/
def Tracker.arrivePaused (t : Tracker) (position : Nat) : TrackerEvent :=
  if t.lastTc = some position then .quiet { t with lossTimer := some 0, holdTimer := none }
  else t.classify position

/-- A valid arrival at position P_tc, of a rate with `frame` ticks per frame (R8, R13 to R21). The loss span
is set first (R8). -/
def Tracker.arrive (t : Tracker) (position frame : Nat) : TrackerEvent :=
  let t := { t with lossSpan := 3 * frame }
  match t.state with
  | .idle => t.enterAcquire position
  | .held => t.enterAcquire position
  | .acquire => t.arriveAcquire position frame
  | .locked => t.classify position
  | .freewheel => t.classify position
  | .paused => t.arrivePaused position

/-! ### The local tick -/

/-- Loss expiry (R23; log 31). -/
def Tracker.expireLoss (t : Tracker) : TrackerEvent :=
  let t := { t with lossTimer := none }
  match t.state with
  | .acquire => .quiet { t with state := .idle, agree := 1, lastTc := none, holdTimer := none }
  | .locked =>
    if t.freewheelLimit = 0 then t.enterHeld
    else .quiet { t with state := .freewheel, holdTimer := some 0 }
  | .paused =>
    if t.freewheelLimit = 0 then t.enterHeld else .quiet { t with holdTimer := some 0 }
  | _ => .quiet t

/-- Whether the loss timer expires at the next local tick (R22). -/
def Tracker.lossDue (t : Tracker) : Bool :=
  match t.lossTimer with
  | some n => decide (t.lossSpan ≤ n + 1)
  | none => false

/-- Whether the hold timer expires at the next local tick (R24). -/
def Tracker.holdDue (t : Tracker) : Bool :=
  match t.holdTimer with
  | some n => decide (t.freewheelLimit ≤ n + 1)
  | none => false

/-- The hold timer's step of a local tick (R10 step 4, R24). -/
def Tracker.stepHold (t : Tracker) : TrackerEvent :=
  if t.holdDue then t.enterHeld else .quiet { t with holdTimer := t.holdTimer.map (· + 1) }

/-- The timers' steps of a local tick (R10 steps 3 and 4). A hold timer that the loss expiry starts is not
advanced at the same tick; otherwise the loss timer and then the hold timer advance. -/
def Tracker.stepTimers (t : Tracker) : TrackerEvent :=
  if t.lossDue then t.expireLoss
  else { t with lossTimer := t.lossTimer.map (· + 1) }.stepHold

/-- The whole local tick (R10): advance, saturation (R11), loss timer, hold timer. -/
def Tracker.localTick (t : Tracker) : TrackerEvent :=
  if t.state = .locked ∨ t.state = .freewheel then
    let e := t.est.shift (65536 + t.trim)
    if Config.maxPosition < e.ticks then { t with est := ⟨Config.maxPosition, 0⟩ }.enterHeld
    else { t with est := e }.stepTimers
  else t.stepTimers

/-- Whether the next local tick saturates the estimate (R11); the timers' steps are then skipped. -/
def Tracker.saturates (t : Tracker) : Bool :=
  (decide (t.state = .locked) || decide (t.state = .freewheel))
    && decide (Config.maxPosition < (t.est.shift (65536 + t.trim)).ticks)

/-! ### On the machine -/

/-- An order handed to each of its recipients (R27). -/
def State.handOrder (s : State) (a : Aud) (o : TrackerOrder) : State :=
  let s := s.updRelease a (fun r => { r with orders := r.orders ++ [o] })
  let s := s.updStreamer a (fun x => { x with orders := x.orders ++ [o] })
  match o with
  | .seek target gen => s.updWindow a (fun w => { w with orders := w.orders ++ [⟨target, gen⟩] })
  | _ => s

/-- An event of a tracker context brought about: the context and the counters first, then the order, then
one report of a changed state (R27, R28). -/
def State.commitTracker (s : State) (a : Aud) (ev : TrackerEvent) : State :=
  let before := (s.aud a).tracker.state
  let s := s.updTracker a (fun _ => ev.tracker)
  let s := s.bump a .slips ev.slips
  let s := s.bump a .seeks ev.seeks
  let s := match ev.order with
    | some o => s.handOrder a o
    | none => s
  if before = ev.tracker.state then s else s.raiseReason (Party.slot a)

/-- A framed word reaches the tracker (R6, R7, R8). -/
def State.wordArrival (s : State) (a : Aud) (w : Vector Byte 8) : State :=
  if (s.aud a).state = .show then
    if timecodeValid w then
      let t := readTimecode w
      let tracker := (s.aud a).tracker
      s.commitTracker a (tracker.arrive (timecodePosition t tracker.tcOffset) (tpf t.rate))
    else s.bump a .wordsDiscarded 1
  else s

/-- TIMECODE_WORD_ARRIVAL: the line's oldest framed word is delivered (R5, R6). -/
def execTimecodeWordArrival (a : Aud) (s : State) : Result :=
  match (s.aud a).line.framed with
  | [] => .next s
  | w :: rest => .next ((s.updLine a (fun l => { l with framed := rest })).wordArrival a w)

/-- The line receiver takes a byte (R5). -/
def LineReceiver.take (l : LineReceiver) (b : Byte) : LineReceiver :=
  if l.partialWord.isEmpty then
    if b = Config.syncByte then { l with partialWord := [b] } else l
  else
    let word := l.partialWord ++ [b]
    if h : word.length = 8 then
      { partialWord := [], framed := l.framed ++ [⟨⟨word⟩, by simpa using h⟩] }
    else { l with partialWord := word }

/-- TIMECODE_LINE_BYTE (R5). -/
def execTimecodeLineByte (a : Aud) (b : Byte) (s : State) : Result :=
  .next (s.updLine a (fun l => l.take b))

/-- One local tick of a tracker context (R10). -/
def State.trackerTick (s : State) (a : Aud) : State := s.commitTracker a (s.aud a).tracker.localTick

/-- TRACKER_LOCAL_TICK (R10). -/
def execTrackerLocalTick (a : Aud) (s : State) : Result := .next (s.trackerTick a)

/-- LOSS_EXPIRY: the local tick that brings the loss timer to the loss span, whole (R10, R22, R23). Where
the next local tick is not that one, there is no such event and nothing changes (log 2). -/
def execLossExpiry (a : Aud) (s : State) : Result :=
  let t := (s.aud a).tracker
  if t.lossDue && !t.saturates then .next (s.trackerTick a) else .next s

/-- HOLD_EXPIRY: the local tick that brings the hold timer to the freewheel limit, whole (R10, R24). Where
the next local tick is not that one, there is no such event and nothing changes (log 2). -/
def execHoldExpiry (a : Aud) (s : State) : Result :=
  let t := (s.aud a).tracker
  if t.holdDue && !t.saturates then .next (s.trackerTick a) else .next s

/-! ### Parameters and lifecycle points -/

/-- A value brought into a range, with whether it was changed. -/
def clampInt (lo hi v : Int) : Int := max lo (min hi v)

/-- The tracker takes its three parameters from a request (R4). -/
def State.takeTrackerParameters (s : State) (a : Aud) (r : SlotRequest) : State :=
  let offset := clampInt (-600) 600 r.tcOffset
  let freewheel := min r.freewheelLimit 4800
  let catchUp := max 24 (min 1200 r.catchUpLimit)
  let s := s.updTracker a (fun t =>
    { t with tcOffset := offset, freewheelLimit := freewheel, catchUpLimit := catchUp })
  let s := s.reportClamp a (decide (offset ≠ r.tcOffset))
  let s := s.reportClamp a (decide (freewheel ≠ r.freewheelLimit))
  s.reportClamp a (decide (catchUp ≠ r.catchUpLimit))

/-- The context at attach (R3): the parameters are as taken, the loss span and seek generation stand. -/
def Tracker.attach (t : Tracker) : Tracker :=
  { t with
    state := .idle, est := ⟨0, 0⟩, trim := 0, agree := 1, lastTc := none, repeats := 0
    lossTimer := none, holdTimer := none }

/-- The context on entering CLOSING, STANDBY or OFF (R3). -/
def Tracker.stop (t : Tracker) : Tracker :=
  { t with
    state := .idle, agree := 1, lastTc := none, repeats := 0, lossTimer := none, holdTimer := none }

end Sys2Proof.Machine
end

