-- ==== Sys2Proof/Machine/Lifecycle.lean ====
section
/-! DEFINITION. The Auditorium Lifecycle (chapter 9): a taken request by auditorium state and requested state, the
transitions between OFF, STANDBY, SHOW and CLOSING, and the drained event. -/

namespace Sys2Proof.Machine

/-! ### What a request gives -/

/-- The tracker's parameters and keep-back, taken from a request in every state but CLOSING (R4, R47, R170). -/
def State.takeParameters (s : State) (a : Aud) (r : SlotRequest) : State :=
  (s.takeTrackerParameters a r).takeKeepBack a r

/-- The three blocks' part of a changed descriptor of one channel (R178): the page and the lane (R113), the
stream context (R130), the devices (R165). -/
def State.reconfigure (s : State) (a : Aud) (c : Chan) (oldKind newKind : ChannelKind) : State :=
  let s := s.reconfigurePage a c newKind
  let s := if oldKind = .audio ∨ newKind = .audio then s.reconfigureStream a c else s
  if oldKind = newKind then s else s.closeChannel a c

/-- One channel's descriptor taken from a request (R93, R178). -/
def State.takeDescriptor (a : Aud) (r : SlotRequest) (s : State) (c : Chan) : State :=
  let old := (s.aud a).release.channels[c]
  let new := r.channels[c]
  let s := s.reportClamp a r.kindBad[c]
  let s := s.updRelease a (fun x => { x with channels := x.channels.set c new })
  if old.reconfigures new then s.reconfigure a c old.kind new.kind else s

/-- The four descriptors taken from a request, in ascending channel order (R178). -/
def State.takeDescriptors (s : State) (a : Aud) (r : SlotRequest) : State :=
  (List.finRange 4).foldl (State.takeDescriptor a r) s

/-! ### Transitions -/

/-- The mirror timer of an auditorium's slot started at 0, or stopped (R184). -/
def State.setMirrorTimer (s : State) (p : Party) (timer : Option Nat) : State :=
  s.updParty p (fun x => { x with mirrorTimer := timer })

/-- OFF to STANDBY (R172): the lane starts in SPARSE, the state is STANDBY, the descriptors are taken; the
slot's mirror timer starts (R184). -/
def State.offToStandby (s : State) (a : Aud) (r : SlotRequest) : State :=
  let s := s.updLane a (fun _ => Lane.start)
  let s := s.setLifecycle a .standby none
  (s.setMirrorTimer (Party.slot a) (some 0)).takeDescriptors a r

/-- The attach generation of an auditorium increases by 1, wrapping (R75, R82). -/
def State.moveAttachGen (s : State) (a : Aud) : State :=
  { s with fetch := { s.fetch with attachGen := s.fetch.attachGen.set a (s.fetch.attachGen[a] + 1) } }

/-- An attach (R173). -/
def State.attach (s : State) (a : Aud) (r : SlotRequest) : State :=
  let s := s.moveAttachGen a
  let s := (s.updProgramme a (fun p => p.attach r)).requestBatch a
  let s := s.updTracker a Tracker.attach
  let s := s.attachWindow a
  let s := s.updRelease a (fun x => x.attach (s.seekGen a))
  let s := s.updStreamer a (fun u => u.attach (s.seekGen a))
  s.setLifecycle a .show none

/-- Whether a queued request is a programme request of the auditorium (R76). -/
def QueuedRequest.programmeOf (q : QueuedRequest) (a : Aud) : Bool :=
  q.request.attachTag.isSome && decide (q.request.party = Party.slot a)

/-- The auditorium's programme requests removed from the queue in one event, its count reduced by them
(R75, R84). -/
def State.removeProgramme (s : State) (a : Aud) : State :=
  let gone := s.fetch.queue.filter (fun q => q.programmeOf a)
  { s with fetch := { s.fetch with
      queue := s.fetch.queue.filter (fun q => !q.programmeOf a)
      queuedCount := s.fetch.queuedCount.set (Party.slot a)
        (s.fetch.queuedCount[Party.slot a] - gone.length) } }

/-- So many departures of one party (R79). -/
def State.departures (s : State) (p : Party) : Nat → State
  | 0 => s
  | n + 1 => State.departures (s.depart p) p n

/-- A drained event handed to the lifecycle (R84; log 29). -/
def State.handDrained (s : State) (a : Aud) : State :=
  { s with fetch := { s.fetch with drained := s.fetch.drained.set a true } }

/-- Entry into CLOSING with a request pending (R174). Each request removed from the queue is a departure, and
the drained event is handed at once where no programme read is in flight (R84; log 33). The attach generation moves
within this event, so that a descriptor batch that completes after it is discarded (R50, R89; row 6 of R179 read with
its two outcomes exchanged, log 53). -/
def State.enterClosing (s : State) (a : Aud) (r : SlotRequest) : State :=
  let removed := (s.fetch.queue.filter (fun q => q.programmeOf a)).length
  let s := (s.moveAttachGen a).removeProgramme a
  let s := s.flushShow a
  let s := s.updTracker a Tracker.stop
  let s := s.updProgramme a Programme.close
  let s := s.setLifecycle a .closing (some r)
  let s := s.departures (Party.slot a) removed
  if s.fetch.programmeReads[a] = 0 then s.handDrained a else s

/-- Entry into OFF from STANDBY (R177); the slot's mirror timer stops (R184). -/
def State.enterOff (s : State) (a : Aud) : State :=
  let s := s.updLane a (fun _ => Lane.reset)
  let s := s.freeDevices a
  let s := s.updRelease a Release.enterOff
  let s := s.updTracker a Tracker.stop
  let s := s.updStreamer a Streamer.close
  let s := s.setLifecycle a .off none
  s.setMirrorTimer (Party.slot a) none

/-! ### Taking a request -/

/-- Why a SHOW request is refused (R171). -/
def SlotRequest.refused (r : SlotRequest) : Bool :=
  decide (r.requested = .show)
    && (decide (r.reference = 0) || decide (r.segmentCount = 0) || decide (32 < r.segmentCount)
        || decide (5 < r.editRate))

/-- How a request compares with the held programme (R37). -/
inductive ProgrammeChange where
  | same | append | change
  deriving DecidableEq, Repr

/-- The comparison of R37. -/
def Programme.compare (p : Programme) (r : SlotRequest) : ProgrammeChange :=
  if p.reference = r.reference ∧ p.editRate = r.editRate then
    if r.segmentCount = p.segmentCount then .same
    else if p.segmentCount < r.segmentCount then .append
    else .change
  else .change

/-- A request acts in STANDBY (R170). -/
def State.requestInStandby (s : State) (a : Aud) (r : SlotRequest) : State :=
  let s := (s.takeParameters a r).takeDescriptors a r
  match r.requested with
  | .off => s.enterOff a
  | .standby => s
  | .show => s.attach a r

/-- A request acts in SHOW (R37, R170). -/
def State.requestInShow (s : State) (a : Aud) (r : SlotRequest) : State :=
  let s := (s.takeParameters a r).takeDescriptors a r
  match r.requested with
  | .off => s.enterClosing a r
  | .standby => s.enterClosing a r
  | .show =>
    match (s.aud a).programme.compare r with
    | .same => s
    | .append => s.append a r.segmentCount
    | .change => s.enterClosing a r

/-- A request acts in OFF (R170, R172, R173). -/
def State.requestInOff (s : State) (a : Aud) (r : SlotRequest) : State :=
  let s := s.takeParameters a r
  match r.requested with
  | .off => s
  | .standby => s.offToStandby a r
  | .show => (s.offToStandby a r).attach a r

/-- A request that is not refused, by the auditorium state (R170, R175). -/
def State.applyRequest (s : State) (a : Aud) (r : SlotRequest) : State :=
  match (s.aud a).state with
  | .off => s.requestInOff a r
  | .standby => s.requestInStandby a r
  | .show => s.requestInShow a r
  | .closing => s.setLifecycle a .closing (some r)

/-- One report of a changed auditorium state, for an event that began in `before` (R169). -/
def State.reportState (s : State) (a : Aud) (before : AudState) : State :=
  if (s.aud a).state = before then s else s.raiseReason (Party.slot a)

/-- The lifecycle takes a request that the Exchange Unit took for the slot (R170, R171). -/
def State.handRequest (s : State) (a : Aud) (r : SlotRequest) : State :=
  if r.refused then s.report (Party.slot a) .major .configBad (some r.reference) none
  else
    let before := (s.aud a).state
    ((s.reportClamp a r.stateBad).applyRequest a r).reportState a before

/-! ### The drained event -/

/-- CLOSING ends (R176): the retire mark becomes N, with its one notice reason (R45, R48), the state is
STANDBY, and the pending request is applied as one taken there. -/
def State.leaveClosing (s : State) (a : Aud) : State :=
  let pending := (s.aud a).pendingRequest
  let s := (s.updProgramme a Programme.leaveClosing).raiseReason (Party.slot a)
  let s := s.setLifecycle a .standby none
  let s := match pending with
    | some r => s.requestInStandby a r
    | none => s
  s.reportState a .closing

/-- DRAINED: the lifecycle takes the drained event of an auditorium; outside CLOSING it is discarded (R176). -/
def execDrained (a : Aud) (s : State) : Result :=
  if s.fetch.drained[a] then
    let s := { s with fetch := { s.fetch with drained := s.fetch.drained.set a false } }
    if (s.aud a).state = .closing then .next (s.leaveClosing a) else .next s
  else .next s

end Sys2Proof.Machine
end

