-- ==== Sys2Proof/Machine/Mirror.lean ====
section
/-! DEFINITION. What the part writes as bytes (R190): the mirror halves of a slot and of the site with their
incident record, and the eight frame slots of a lane frame; and the issue of a mirror write (R184). -/

namespace Sys2Proof.Machine

/-! ### Fields -/

/-- A little-endian field of `size` bytes (R190). -/
def leBytes : Nat → Nat → List Byte
  | 0, _ => []
  | size + 1, v => BitVec.ofNat 8 v :: leBytes size (v / 256)

/-- A field put at an offset of a byte string. -/
def putAt (bytes : List Byte) (offset : Nat) (field : List Byte) : List Byte :=
  bytes.take offset ++ field ++ bytes.drop (offset + field.length)

/-- 256 bytes, 0 where no field lies, with each field at its offset (R190). -/
def layout (fields : List (Nat × List Byte)) : List Byte :=
  fields.foldl (fun bytes f => putAt bytes f.1 f.2) (List.replicate 256 0)

/-- A byte with bit 0 set or clear. -/
def flag (b : Bool) : Nat := if b then 1 else 0

/-- A signed value as a field of so many bits (R190). -/
def signedField (bits : Nat) (v : Int) : Nat := (v % (2 ^ bits : Nat)).toNat

/-! ### Codes -/

/-- The code of an auditorium state (R190). -/
def AudState.code : AudState → Nat
  | .off => 0
  | .standby => 1
  | .show => 2
  | .closing => 3

/-- The code of a tracker state (R190). -/
def TrackerState.code : TrackerState → Nat
  | .idle => 0
  | .acquire => 1
  | .locked => 2
  | .freewheel => 3
  | .paused => 4
  | .held => 5

/-- The code of a channel kind (R190). -/
def ChannelKind.code : ChannelKind → Nat
  | .off => 0
  | .text => 1
  | .audio => 2

/-- The code of an incident code (R190); 0 stands in a record never written (log 26). -/
def IncidentCode.code : IncidentCode → Nat
  | .clear => 0
  | .configClamped => 1
  | .configBad => 2
  | .segmentBad => 3
  | .cueBad => 4
  | .cueOrder => 5
  | .fetchFault => 6
  | .textLate => 7
  | .cueMissed => 8
  | .audioLate => 9
  | .audioFault => 10
  | .retiredSeek => 11
  | .uplinkOverflow => 12
  | .deviceTableFull => 13

/-- The code of a show state (R190). -/
def ShowState.code : ShowState → Nat
  | .stopped => 0
  | .running => 1
  | .paused => 2
  | .held => 3

/-- The code of a reply's result (R190). -/
def ReplyResult.code : ReplyResult → Nat
  | .accepted => 1
  | .channelClosed => 2
  | .tableFull => 3

/-- The code of a glyph mode (R190). -/
def GlyphMode.code : GlyphMode → Nat
  | .g256 => 0
  | .g512 => 1

/-- The code of a severity (R190). -/
def Severity.code : Severity → Nat
  | .minor => 0
  | .major => 1

/-! ### Mirror halves -/

/-- An incident record's 32 bytes (R190). -/
def IncidentRecord.bytes (r : IncidentRecord) : List Byte :=
  leBytes 1 (flag r.valid + 2 * flag r.overflow + 4 * flag r.addressValid + 8 * flag r.ordinalValid
      + 16 * r.severity.code)
    ++ leBytes 1 r.code.code ++ leBytes 2 r.sequence.toNat ++ leBytes 2 r.minorCount ++ leBytes 2 0
    ++ leBytes 8 r.address.toNat ++ leBytes 4 r.ordinal ++ leBytes 4 r.position ++ leBytes 8 0

/-- The mirror half of an auditorium's slot, with a stamp (R184, R190). Offsets are from 0x100 of the slot (log 32). -/
def State.slotMirror (s : State) (a : Aud) (stamp : Word) : List Byte :=
  let x := s.aud a
  let d := x.release.channels
  layout ([
      (0x00, leBytes 4 stamp.toNat),
      (0x04, leBytes 4 ((s.party (Party.slot a)).takenGen.getD 0).toNat),
      (0x08, leBytes 1 x.state.code),
      (0x09, leBytes 1 x.tracker.state.code),
      (0x0A, leBytes 1 (signedField 8 x.tracker.trim)),
      (0x0B, leBytes 1 x.programme.retireMark),
      (0x0C, leBytes 4 (s.position a)),
      (0x18, leBytes 2 (signedField 16 x.tracker.tcOffset)),
      (0x1A, leBytes 2 x.tracker.freewheelLimit),
      (0x1C, leBytes 2 x.tracker.catchUpLimit),
      (0x24, leBytes 4 x.programme.keepBack),
      (0x68, (s.incident (Party.slot a)).bytes),
      (0xFC, leBytes 4 stamp.toNat)]
    ++ (List.finRange 4).map (fun c => (0x10 + 2 * c.val, leBytes 2 (s.audience a c)))
    ++ (List.finRange 4).map (fun c => (0x20 + c.val, leBytes 1 (d[c]).kind.code))
    ++ (List.finRange 16).map (fun k => (0x28 + 4 * k.val, leBytes 4 (x.counters[k]).toNat)))

/-- The site's mirror half, with a stamp (R184, R190). -/
def State.siteMirror (s : State) (stamp : Word) : List Byte :=
  layout [
    (0x00, leBytes 4 stamp.toNat),
    (0x04, leBytes 4 ((s.party Party.site).takenGen.getD 0).toNat),
    (0x08, leBytes 2 s.devices.quietThreshold),
    (0x0A, leBytes 2 s.devices.releaseThreshold),
    (0x10, (s.incident Party.site).bytes),
    (0xFC, leBytes 4 stamp.toNat)]

/-- The mirror half of a party, with a stamp (R184). -/
def State.mirrorHalf (s : State) (p : Party) (stamp : Word) : List Byte :=
  match p.aud? with
  | some a => s.slotMirror a stamp
  | none => s.siteMirror stamp

/-! ### The issue of a mirror write -/

/-- The party's bit of KNOTE set (R185). -/
def State.setNote (s : State) (p : Party) : State :=
  { s with regs := { s.regs with knote := s.regs.knote ||| BitVec.ofNat 17 (2 ^ p.val) } }

/-- The issue of a mirror write to its request's address (R81, R184): the stamp increases, the bytes are formed
from the state as it stands and go out, and the party has no mirror write any more; a running mirror timer
restarts (log 12); a notice owed sets the party's bit of KNOTE. -/
def State.issueMirror (s : State) (p : Party) (address : HostAddr) : State :=
  let stamp := (s.party p).stamp + 1
  let owed := (s.party p).noticesOwed
  let bytes := s.mirrorHalf p stamp
  let s := s.updParty p (fun x =>
    { x with
      stamp := stamp, mirrorWrite := .none, mirrorTimer := x.mirrorTimer.map (fun _ => 0)
      noticesOwed := false })
  let s := { s with fetch := { s.fetch with lastWrite := some ⟨address, bytes⟩ } }
  if owed then s.setNote p else s

/-! ### Frame slots -/

/-- A decoded cell's three bytes (R190). -/
def Cell.bytes (c : Cell) : List Byte :=
  leBytes 1 (c.glyph.toNat % 256) ++ leBytes 1 (c.glyph.toNat / 256 + 2 * flag c.flash)
    ++ leBytes 1 (c.fg.toNat + 16 * c.bg.toNat)

/-- A beacon's entry for a channel (R138, R190). -/
def BeaconChannel.bytes (c : BeaconChannel) : List Byte :=
  leBytes 1 c.kind.code ++ leBytes 1 c.track.val ++ leBytes 1 c.glyphMode.code ++ leBytes 1 (flag c.active)
    ++ leBytes 3 c.language.toNat

/-- A frame slot's 256 bytes (R190). -/
def FrameSlot.bytes : FrameSlot → List Byte
  | .empty => layout []
  | .beacon b =>
    layout ([
        (0, leBytes 1 1),
        (1, leBytes 1 b.auditorium.val),
        (2, leBytes 2 b.frameNumber.toNat),
        (4, leBytes 1 b.showState.code),
        (5, leBytes 1 (flag b.sparse)),
        (8, leBytes 4 b.position)]
      ++ (List.finRange 4).map (fun (c : Chan) => (12 + 8 * c.val, (b.channels[c]).bytes)))
  | .row c r version cells =>
    layout ([
        (0, leBytes 1 2),
        (1, leBytes 1 c.val),
        (2, leBytes 1 r.val),
        (3, leBytes 1 version.toNat)]
      ++ (List.finRange 40).map (fun k => (4 + 3 * k.val, (cells[k]).bytes)))
  | .audio c ordinalLow index presentation bytes =>
    layout [
      (0, leBytes 1 3),
      (1, leBytes 1 c.val),
      (2, leBytes 2 ordinalLow.toNat),
      (4, leBytes 2 index),
      (6, leBytes 1 bytes.length),
      (8, leBytes 4 presentation),
      (12, bytes)]
  | .reply r versions =>
    layout ([
        (0, leBytes 1 4),
        (1, leBytes 1 r.result.code),
        (2, [r.channelArg]),
        (4, leBytes 4 r.device.toNat)]
      ++ (List.finRange 4).map (fun i => (8 + i.val, [versions[i]])))

/-- The bytes on the air at an auditorium's lane, frame slot by frame slot, or none where nothing is sent
(R136, R190). -/
def State.onAirBytes (s : State) (a : Aud) : Option (List (List Byte)) :=
  (s.aud a).lane.onAir.map (fun f => f.map FrameSlot.bytes)

end Sys2Proof.Machine
end

