-- ==== Sys2Proof/Machine/Exchange.lean ====
section
/-! DEFINITION. The Exchange Unit's traffic (chapter 10): scan and take reads, the take of a request, calls, and
the scan and mirror timers. -/

namespace Sys2Proof.Machine

/-- A scan read is made where the party's directory read is NONE (R182). -/
def State.scanRead (s : State) (p : Party) : State :=
  match (s.party p).directoryRead with
  | .none => s.directoryRequest p .scan
  | _ => s

/-- A party's directory read returns to NONE; a set call pending makes a scan read at once (R182, R183). -/
def State.finishDirectory (s : State) (p : Party) : State :=
  let called := (s.party p).callPending
  let s := s.updParty p (fun x => { x with directoryRead := .none, callPending := false })
  if called then s.scanRead p else s

/-- The request of a taken host half, handed to the Incident Unit first (R195) and then to the lifecycle or to
the Device Table (R182). -/
def State.handTaken (s : State) (p : Party) (half : List Byte) : State :=
  match p.aud? with
  | some a =>
    let r := readSlotRequest half
    (s.acknowledge p r.acknowledge).handRequest a r
  | none =>
    let r := readSiteRequest half
    (s.acknowledge p r.acknowledge).takeThresholds r

/-- The site's mirror timer starts at 0 at its first take after an enable (R184). -/
def ExchangeContext.take (x : ExchangeContext) (p : Party) (gen : Word) : ExchangeContext :=
  { x with
    takenGen := some gen
    mirrorTimer := if p = Party.site ∧ x.takenGen.isNone then some 0 else x.mirrorTimer }

/-- A request is taken from the bytes of a take read (R182; log 18). -/
def State.takeRequest (s : State) (p : Party) (half : List Byte) : State :=
  let s := s.updParty p (fun x => x.take p (requestGeneration half))
  (s.handTaken p half).raiseReason p

/-- Whether a host half's generation word is not the one taken (R182). -/
def State.isNewGeneration (s : State) (p : Party) (half : List Byte) : Bool :=
  decide ((s.party p).takenGen ≠ some (requestGeneration half))

/-- A DIRECTORY read completes (R182); none is a fault. -/
def State.directoryCompletion (s : State) (p : Party) (r : Request) (data : Option (List Byte)) : State :=
  match data with
  | none => (s.report p .major .fetchFault (some r.address) none).finishDirectory p
  | some half =>
    match (s.party p).directoryRead with
    | .scan => if s.isNewGeneration p half then s.directoryRequest p .take else s.finishDirectory p
    | .take => (if s.isNewGeneration p half then s.takeRequest p half else s).finishDirectory p
    | .none => s

/-- A call of a party (R183). -/
def State.call (s : State) (p : Party) : State :=
  match (s.party p).directoryRead with
  | .none => s.scanRead p
  | _ => s.updParty p (fun x => { x with callPending := true })

/-- KCALL: a write to KCALL (R183). Values above 16, and writes while ENABLE is 0, are ignored. -/
def execKcall (value : Word) (s : State) : Result :=
  if h : value.toNat < 17 then
    if s.regs.enable then .next (s.call ⟨value.toNat, h⟩) else .next s
  else .next s

/-- A scan timer expires: it starts its next 120 local ticks and makes a scan read (R181, R182). -/
def State.scanExpiry (s : State) (p : Party) : State :=
  (s.updParty p (fun x => { x with scanTimer := some 0 })).scanRead p

/-- SCAN_TIMER_EXPIRY: the expiry of a party's running scan timer; a stopped timer does not expire (R182, log
1). -/
def execScanTimerExpiry (p : Party) (s : State) : Result :=
  if (s.party p).scanTimer.isSome then .next (s.scanExpiry p) else .next s

/-- A mirror timer expires: it restarts at 0 and asks for a write where the party has none (R184). -/
def State.mirrorExpiry (s : State) (p : Party) : State :=
  (s.updParty p (fun x => { x with mirrorTimer := some 0 })).askMirrorWrite p

/-- MIRROR_TIMER_EXPIRY: the expiry of a party's running mirror timer; a stopped timer does not expire (R184,
log 1). -/
def execMirrorTimerExpiry (p : Party) (s : State) : Result :=
  if (s.party p).mirrorTimer.isSome then .next (s.mirrorExpiry p) else .next s

/-! ### The timers at a local tick -/

/-- A party's scan timer at a local tick (R181). -/
def State.tickScan (s : State) (p : Party) : State :=
  match (s.party p).scanTimer with
  | some n =>
    if Config.scanPeriod ≤ n + 1 then s.scanExpiry p
    else s.updParty p (fun x => { x with scanTimer := some (n + 1) })
  | none => s

/-- A party's mirror timer at a local tick (R184). -/
def State.tickMirror (s : State) (p : Party) : State :=
  match (s.party p).mirrorTimer with
  | some n =>
    if Config.mirrorPeriod ≤ n + 1 then s.mirrorExpiry p
    else s.updParty p (fun x => { x with mirrorTimer := some (n + 1) })
  | none => s

end Sys2Proof.Machine
end

