-- ==== Sys2Proof/Machine/Fetch.lean ====
section
/-! DEFINITION. The Fetch Engine (chapter 4): issue, completion with its tag tests, the read timer, and the offers
after a departure. -/

namespace Sys2Proof.Machine

/-! ### Issue -/

/-- The request that issues next: of the lowest class held, the one that entered first (R80). -/
def FetchEngine.choose (f : FetchEngine) : Option QueuedRequest :=
  (List.finRange 4).findSome? (fun c => f.queue.find? (fun q => decide (q.cls = c)))

/-- A request leaves the queue at its issue: its party's count decreases, and the departure is handed (R79,
R80). -/
def State.leaveQueue (s : State) (q : QueuedRequest) : State :=
  { s with fetch := { s.fetch with
      queue := s.fetch.queue.erase q
      queuedCount := s.fetch.queuedCount.set q.request.party
        (s.fetch.queuedCount[q.request.party] - 1) } }.depart q.request.party

/-- A party's programme reads in flight changed; the site has none (R75). -/
def State.setProgrammeReads (s : State) (p : Party) (f : Nat → Nat) : State :=
  match p.aud? with
  | some a =>
    { s with fetch := { s.fetch with
        programmeReads := s.fetch.programmeReads.set a (f s.fetch.programmeReads[a]) } }
  | none => s

/-- A read joins the in-flight set with its timer at 0 (R80); the model names it by the next bus tag. -/
def State.startRead (s : State) (r : Request) : State :=
  let s := { s with fetch := { s.fetch with
    inFlight := s.fetch.inFlight ++ [⟨s.fetch.nextTag, r, 0⟩], nextTag := s.fetch.nextTag + 1 } }
  if r.attachTag.isSome then s.setProgrammeReads r.party (· + 1) else s

/-- A chosen request issues: a write is posted, a read joins the in-flight set (R80, R81). -/
def State.issue (s : State) (q : QueuedRequest) : State :=
  let s := s.leaveQueue q
  if q.request.purpose = .mirrorWrite then s.issueMirror q.request.party q.request.address
  else s.startRead q.request

/-- REQUEST_ISSUE: one issue where the queue is not empty and fewer than 4 reads are in flight (R80). -/
def execRequestIssue (s : State) : Result :=
  if s.fetch.inFlight.length < Config.flightPlaces then
    match s.fetch.choose with
    | some q => .next (s.issue q)
    | none => .next s
  else .next s

/-! ### Completions -/

/-- The read in flight under a bus tag. -/
def FetchEngine.flight (f : FetchEngine) (tag : Nat) : Option Flight :=
  f.inFlight.find? (fun x => decide (x.tag = tag))

/-- The count of programme reads falls, and the drained event is handed where it comes to 0 in CLOSING (R82,
R84). -/
def State.endProgrammeRead (s : State) (p : Party) : State :=
  let s := s.setProgrammeReads p (· - 1)
  match p.aud? with
  | some a =>
    if (s.aud a).state = .closing ∧ s.fetch.programmeReads[a] = 0 then s.handDrained a else s
  | none => s

/-- A read leaves the in-flight set (R82). -/
def State.endRead (s : State) (x : Flight) : State :=
  let s := { s with fetch := { s.fetch with
    inFlight := s.fetch.inFlight.filter (fun y => decide (y.tag ≠ x.tag)) } }
  if x.request.attachTag.isSome then s.endProgrammeRead x.request.party else s

/-- The tag tests on a completion (R82): epoch, attach generation, seek generation. -/
def State.tagsStand (s : State) (r : Request) : Bool :=
  decide (r.epochTag = s.fetch.runEpoch)
    && (match r.party.aud? with
        | some a =>
          (r.attachTag.isNone || decide (r.attachTag = some s.fetch.attachGen[a]))
            && (r.seekTag.isNone || decide (r.seekTag = some (s.seekGen a)))
        | none => true)

/-- A completion delivered to its requester (R76, R82); none is a fault. -/
def State.deliver (s : State) (r : Request) (data : Option (List Byte)) : State :=
  match r.requester, r.party.aud? with
  | .exchange, _ => s.directoryCompletion r.party r data
  | .programme, some a =>
    match data with
    | some bytes => s.batchData a bytes
    | none => s.batchFault a r.address
  | .windowEntry e, some a =>
    match r.purpose with
    | .cueRecord => s.recordCompletion a e r data
    | .text => s.textCompletion a e r data
    | _ => s.headCompletion a e r data
  | .windowSearch, some a => s.probeCompletion a r data
  | .streamBatch c first, some a => s.batchCompletion a c first r data
  | .streamPacket c k, some a => s.packetCompletion a c k r data
  | _, none => s

/-- A read in flight completes: it leaves the set, and the completion is delivered or discarded (R82). That of a
programme read whose auditorium has entered CLOSING in the meantime is discarded, as R50 and R89 say (row 6 of R179 read
with its two outcomes exchanged, log 53). -/
def State.completeRead (s : State) (x : Flight) (data : Option (List Byte)) : State :=
  let s := s.endRead x
  if s.tagsStand x.request then s.deliver x.request data else s

/-- READ_COMPLETION: the bus answers the read of a tag (R82). A tag of no read in flight is a late answer and is
discarded; bytes that are not the read's whole length do not answer it in full, and nothing changes (logs 13 and 16). -/
def execReadCompletion (tag : Nat) (answer : BusAnswer) (s : State) : Result :=
  match s.fetch.flight tag with
  | none => .next s
  | some x =>
    match answer with
    | .data bytes =>
      if bytes.length = x.request.length then .next (s.completeRead x (some bytes)) else .next s
    | .busError => .next (s.completeRead x none)

/-- READ_TIMEOUT: the read of a tag completes as FAULT (R82). A tag of no read in flight names none. -/
def execReadTimeout (tag : Nat) (s : State) : Result :=
  match s.fetch.flight tag with
  | none => .next s
  | some x => .next (s.completeRead x none)

/-! ### Offers after a departure -/

/-- The window offers its listed requests in list order and stops at the first refusal (R58). -/
def State.offerWindow (s : State) (a : Aud) : List Request → State
  | [] => s.updWindow a (fun w => { w with offers := [] })
  | r :: rs =>
    match s.offerResult r.party with
    | .entered => State.offerWindow (s.enqueue r) a rs
    | _ => s.updWindow a (fun w => { w with offers := r :: rs })

/-- The streamer offers its listed requests in list order and stops at the first refusal (R121). -/
def State.offerStreamer (s : State) (a : Aud) : List Request → State
  | [] => s.updStreamer a (fun u => { u with offers := [] })
  | r :: rs =>
    match s.offerResult r.party with
    | .entered => State.offerStreamer (s.enqueue r) a rs
    | _ => s.updStreamer a (fun u => { u with offers := r :: rs })

/-- Whether a listed request of the streamer still has its packet entry or its carriage (R121). -/
def Streamer.wants (u : Streamer) (r : Request) : Bool :=
  match r.requester with
  | .streamPacket c k =>
    u.streams[c].queue.any (fun p => decide (some p.ordinal = r.ordinal ∧ p.index = k) && p.body.isNone)
  | .streamBatch c _ => u.streams[c].cues.any (fun y => decide (some y.ordinal = r.ordinal))
  | _ => false

/-- A stream context whose listed batch is removed has no batch outstanding any more (log 14). -/
def Streamer.dropBatches (u : Streamer) : Streamer :=
  { u with
    streams := vofFn (fun (c : Chan) =>
      if u.offers.any (fun r => !u.wants r &&
          (match r.requester with
            | .streamBatch c' _ => decide (c' = c)
            | _ => false)) then
        { u.streams[c] with batchOut := false }
      else u.streams[c])
    offers := u.offers.filter u.wants }

/-- The Programme Unit offers its waiting batch (R33). -/
def State.offerBatch (s : State) (a : Aud) : State :=
  match (s.aud a).programme.batch with
  | .waiting r => s.programmeBatch a r
  | _ => s

/-- An exchange request that has entered: a mirror write is QUEUED now (R184). -/
def State.exchangeEntered (s : State) (r : Request) : State :=
  let s := s.enqueue r
  if r.purpose = .mirrorWrite then s.updParty r.party (fun x => { x with mirrorWrite := .queued }) else s

/-- The Exchange Unit offers its listed requests in list order (R181): QUEUE_FULL ends the offering, and
PARTY_FULL passes over the party's further requests. The result holds the requests still listed. -/
def State.offerExchange (s : State) (passed : List Party) : List Request → State × List Request
  | [] => (s, [])
  | r :: rs =>
    if r.party ∈ passed then
      let rest := State.offerExchange s passed rs
      (rest.1, r :: rest.2)
    else
      match s.offerResult r.party with
      | .entered => State.offerExchange (s.exchangeEntered r) passed rs
      | .queueFull => (s, r :: rs)
      | .partyFull =>
        let rest := State.offerExchange s (r.party :: passed) rs
        (rest.1, r :: rest.2)

/-- The Exchange Unit's whole offer list offered (R181). -/
def State.offerExchangeList (s : State) : State :=
  let offered := s.offerExchange [] s.exchange.offers
  { offered.1 with exchange := { offered.1.exchange with offers := offered.2 } }

/-- OFFER_AFTER_DEPARTURE: a block takes its oldest departure event and offers its requests under its own rule
(R79). -/
def execOfferAfterDeparture (b : OfferBlock) (s : State) : Result :=
  match b with
  | .window a =>
    match (s.aud a).window.departures with
    | [] => .next s
    | _ :: rest =>
      .next ((s.updWindow a (fun w => { w with departures := rest })).offerWindow a (s.aud a).window.offers)
  | .programme a =>
    match (s.aud a).programme.departures with
    | [] => .next s
    | _ :: rest => .next ((s.updProgramme a (fun p => { p with departures := rest })).offerBatch a)
  | .streamer a =>
    match (s.aud a).streamer.departures with
    | [] => .next s
    | _ :: rest =>
      let s := s.updStreamer a (fun u => { u.dropBatches with departures := rest })
      .next (s.offerStreamer a (s.aud a).streamer.offers)
  | .exchange =>
    match s.exchange.departures with
    | [] => .next s
    | _ :: rest => .next { s with exchange := { s.exchange with departures := rest } }.offerExchangeList

end Sys2Proof.Machine
end

