-- ==== Sys2Proof/Machine/Registers.lean ====
section
/-! DEFINITION. The register window (R186): what each location reads, writes to KCTL with the start of the part
(R181) and its disable (R187), the other register writes, power-on (R188), and the local tick of the timers
that no row ticks. -/

namespace Sys2Proof.Machine

/-! ### Reads -/

/-- The value a 32-bit location of the register window reads (R186). An offset that holds no register reads
none. -/
def State.readRegister (s : State) (offset : Nat) : Option Word :=
  if offset = 0x00 then some Config.kident
  else if offset = 0x04 then some (if s.regs.enable then 1 else 0)
  else if offset = 0x08 then some (s.regs.kxbase.extractLsb' 0 32)
  else if offset = 0x0C then some (s.regs.kxbase.extractLsb' 32 32)
  else if offset = 0x10 then some 0
  else if offset = 0x14 then some (s.regs.knote.setWidth 32)
  else if offset = 0x18 then some (s.regs.knotemask.setWidth 32)
  else none

/-! ### KCTL -/

/-- The value a party's scan timer starts at (R181). -/
def scanStart (p : Party) : Nat := 119 - 7 * p.val

/-- ENABLE goes from 0 to 1: every scan timer starts (R181). -/
def State.start (s : State) : State :=
  { s with
    regs := { s.regs with enable := true }
    exchange := { s.exchange with
      parties := vofFn (fun (p : Party) =>
        { s.exchange.parties[p] with scanTimer := some (scanStart p) }) } }

/-- The Fetch Engine at a disable: everything forgotten, and the run epoch moved (R75, R83). The bus tag and the
last write are the model's own and stand. -/
def FetchEngine.disable (f : FetchEngine) : FetchEngine :=
  { FetchEngine.reset with runEpoch := f.runEpoch + 1, nextTag := f.nextTag, lastWrite := f.lastWrite }

/-- The pool at a disable: every block free, the cells not cleared (R85, R87). -/
def Pool.disable (p : Pool) : Pool :=
  { Pool.reset with blocks := vmap (fun b => { b with holder := none }) p.blocks }

/-- An auditorium at a disable: OFF, each block at its values for disable, the counters 0 (R3, R31, R54, R92,
R116, R133, R169, R196). The timecode line's receiver goes on (log 3). -/
def Auditorium.disable (x : Auditorium) : Auditorium := { Auditorium.reset with line := x.line }

/-- A disable (R187). -/
def State.disable (s : State) : State :=
  { s with
    regs := { s.regs with enable := false, knote := 0 }
    fetch := s.fetch.disable
    pool := s.pool.disable
    auds := vmap Auditorium.disable s.auds
    devices := .reset
    exchange := .reset
    incidents := Vector.replicate 17 .reset }

/-- A write to KCTL (R186): bit 0 taken as ENABLE; a write that leaves it unchanged has no effect. -/
def State.writeKctl (s : State) (value : Word) : State :=
  match s.regs.enable, value.getLsbD 0 with
  | false, true => s.start
  | true, false => s.disable
  | _, _ => s

/-- ENABLE: a write to KCTL (R181, R186). -/
def execEnable (value : Word) (s : State) : Result := .next (s.writeKctl value)

/-- DISABLE: a write to KCTL (R186, R187). -/
def execDisable (value : Word) (s : State) : Result := .next (s.writeKctl value)

/-! ### The other registers -/

/-- KNOTE_CLEAR: each bit written as 1 is cleared (R185). -/
def execKnoteClear (value : Word) (s : State) : Result :=
  .next { s with regs := { s.regs with knote := s.regs.knote &&& ~~~(value.setWidth 17) } }

/-- KNOTEMASK_WRITE: the seventeen mask bits are stored (R186). -/
def execKnotemaskWrite (value : Word) (s : State) : Result :=
  .next { s with regs := { s.regs with knotemask := value.setWidth 17 } }

/-- The base register set, its low 14 bits reading as 0 (R186; log 27). -/
def State.setBase (s : State) (base : HostAddr) : State :=
  { s with regs := { s.regs with kxbase := base &&& ~~~0x3FFF#64 } }

/-- REGISTER_WRITE: a half of KXBASE is stored while ENABLE is 0; a write to KIDENT is ignored (R186). -/
def execRegisterWrite (reg : PlainRegister) (value : Word) (s : State) : Result :=
  match reg with
  | .kident => .next s
  | .kxbaseLow =>
    if s.regs.enable then .next s
    else .next (s.setBase ((s.regs.kxbase.extractLsb' 32 32) ++ value))
  | .kxbaseHigh =>
    if s.regs.enable then .next s
    else .next (s.setBase (value ++ (s.regs.kxbase.extractLsb' 0 32)))

/-- POWER_ON: every block and register at its power-on value (R188). The commands that wait are not the part's
and stay. -/
def execPowerOn (s : State) : Result := .next { State.reset with pending := s.pending }

/-! ### The tick of an idle step -/

/-- The read timers of the in-flight set advanced by one local tick (R82). -/
def State.tickReads (s : State) : State :=
  { s with fetch := { s.fetch with
      inFlight := s.fetch.inFlight.map (fun x => { x with timer := x.timer + Config.readTimerPerTick }) } }

/-- A read whose timer has reached 2 ms completes as TIMEOUT (R82; log 28). -/
def State.expireRead (s : State) (tag : Nat) : State :=
  match s.fetch.flight tag with
  | none => s
  | some x => if Config.readTimeout ≤ x.timer then s.completeRead x none else s

/-- What an idle step does (log 1): one local tick of the timers that no row of the table ticks, which are the
read timers (R82), the scan timers (R181) and the mirror timers (R184). Timers that expire at the same tick are
taken one after another: reads in the order of their issue, then scans, then mirrors, by ascending party
(log 38). -/
def State.idleTick (s : State) : State :=
  let s := s.tickReads
  let s := (s.fetch.inFlight.map Flight.tag).foldl State.expireRead s
  let s := (List.finRange 17).foldl State.tickScan s
  (List.finRange 17).foldl State.tickMirror s

end Sys2Proof.Machine
end

