-- ==== Sys2Proof/Machine/Dispatch.lean ====
section
/-! DEFINITION. The meaning of every command, one arm to each constructor of Instr. -/

namespace Sys2Proof.Machine

/-- The effect of a command on everything but the queue of commands. -/
def exec (i : Instr) (s : State) : Host.Outcome State Fault Refusal :=
  match i with
  | .powerOn => Sys2Proof.Machine.execPowerOn s
  | .enable value => Sys2Proof.Machine.execEnable value s
  | .disable value => Sys2Proof.Machine.execDisable value s
  | .kcall value => Sys2Proof.Machine.execKcall value s
  | .knoteClear value => Sys2Proof.Machine.execKnoteClear value s
  | .knotemaskWrite value => Sys2Proof.Machine.execKnotemaskWrite value s
  | .registerWrite reg value => Sys2Proof.Machine.execRegisterWrite reg value s
  | .timecodeWordArrival a => Sys2Proof.Machine.execTimecodeWordArrival a s
  | .trackerLocalTick a => Sys2Proof.Machine.execTrackerLocalTick a s
  | .lossExpiry a => Sys2Proof.Machine.execLossExpiry a s
  | .holdExpiry a => Sys2Proof.Machine.execHoldExpiry a s
  | .windowSeekOrder a => Sys2Proof.Machine.execWindowSeekOrder a s
  | .tableReady a => Sys2Proof.Machine.execTableReady a s
  | .releaseSeekOrder a => Sys2Proof.Machine.execReleaseSeekOrder a s
  | .releaseSeekHandOver a => Sys2Proof.Machine.execReleaseSeekHandOver a s
  | .releaseCatchUpOrder a => Sys2Proof.Machine.execReleaseCatchUpOrder a s
  | .releaseHoldOrder a => Sys2Proof.Machine.execReleaseHoldOrder a s
  | .releaseTickCheck a => Sys2Proof.Machine.execReleaseTickCheck a s
  | .releaseReadyCheck a => Sys2Proof.Machine.execReleaseReadyCheck a s
  | .streamSeekOrder a => Sys2Proof.Machine.execStreamSeekOrder a s
  | .streamSeekHandOver a => Sys2Proof.Machine.execStreamSeekHandOver a s
  | .streamCatchUpOrder a => Sys2Proof.Machine.execStreamCatchUpOrder a s
  | .streamHoldOrder a => Sys2Proof.Machine.execStreamHoldOrder a s
  | .streamTickCheck a => Sys2Proof.Machine.execStreamTickCheck a s
  | .streamReadyOpen a => Sys2Proof.Machine.execStreamReadyOpen a s
  | .packetRequest a c => Sys2Proof.Machine.execPacketRequest a c s
  | .tableBatchRequest a c => Sys2Proof.Machine.execTableBatchRequest a c s
  | .windowLeave a => Sys2Proof.Machine.execWindowLeave a s
  | .refill a => Sys2Proof.Machine.execRefill a s
  | .retirement a => Sys2Proof.Machine.execRetirement a s
  | .requestIssue => Sys2Proof.Machine.execRequestIssue s
  | .offerAfterDeparture b => Sys2Proof.Machine.execOfferAfterDeparture b s
  | .readCompletion tag answer => Sys2Proof.Machine.execReadCompletion tag answer s
  | .readTimeout tag => Sys2Proof.Machine.execReadTimeout tag s
  | .poolRetryRound => Sys2Proof.Machine.execPoolRetryRound s
  | .drained a => Sys2Proof.Machine.execDrained a s
  | .scanTimerExpiry p => Sys2Proof.Machine.execScanTimerExpiry p s
  | .mirrorTimerExpiry p => Sys2Proof.Machine.execMirrorTimerExpiry p s
  | .laneFrame a => Sys2Proof.Machine.execLaneFrame a s
  | .laneSweep a => Sys2Proof.Machine.execLaneSweep a s
  | .deviceSweep => Sys2Proof.Machine.execDeviceSweep s
  | .incidentSweep => Sys2Proof.Machine.execIncidentSweep s
  | .uplinkArrival a message => Sys2Proof.Machine.execUplinkArrival a message s
  | .join => Sys2Proof.Machine.execJoin s
  | .alive => Sys2Proof.Machine.execAlive s
  | .repeatRows => Sys2Proof.Machine.execRepeatRows s
  | .leave => Sys2Proof.Machine.execLeave s
  | .timecodeLineByte a byte => Sys2Proof.Machine.execTimecodeLineByte a byte s

end Sys2Proof.Machine
end

