-- ==== Sys2Proof/Safety.lean ====
section
/-! DEFINITION. What a sound state of the part is, block by block, in the terms the statements use: the ranges and
counts that the manual says always hold. Each is a property of one state; the statements say that every step
keeps it. -/

namespace Sys2Proof

/-- The auditorium whose own contexts a command acts on, where the command names one. -/
def Instr.auditorium? : Instr → Option Aud
  | .powerOn => none
  | .enable _ => none
  | .disable _ => none
  | .kcall _ => none
  | .knoteClear _ => none
  | .knotemaskWrite _ => none
  | .registerWrite _ _ => none
  | .timecodeWordArrival a => some a
  | .trackerLocalTick a => some a
  | .lossExpiry a => some a
  | .holdExpiry a => some a
  | .windowSeekOrder a => some a
  | .tableReady a => some a
  | .releaseSeekOrder a => some a
  | .releaseSeekHandOver a => some a
  | .releaseCatchUpOrder a => some a
  | .releaseHoldOrder a => some a
  | .releaseTickCheck a => some a
  | .releaseReadyCheck a => some a
  | .streamSeekOrder a => some a
  | .streamSeekHandOver a => some a
  | .streamCatchUpOrder a => some a
  | .streamHoldOrder a => some a
  | .streamTickCheck a => some a
  | .streamReadyOpen a => some a
  | .packetRequest a _ => some a
  | .tableBatchRequest a _ => some a
  | .windowLeave a => some a
  | .refill a => some a
  | .retirement a => some a
  | .requestIssue => none
  | .offerAfterDeparture (.window a) => some a
  | .offerAfterDeparture (.programme a) => some a
  | .offerAfterDeparture (.streamer a) => some a
  | .offerAfterDeparture .exchange => none
  | .readCompletion _ _ => none
  | .readTimeout _ => none
  | .poolRetryRound => none
  | .drained a => some a
  | .scanTimerExpiry _ => none
  | .mirrorTimerExpiry _ => none
  | .laneFrame a => some a
  | .laneSweep a => some a
  | .deviceSweep => none
  | .incidentSweep => none
  | .uplinkArrival a _ => some a
  | .join => none
  | .alive => none
  | .repeatRows => none
  | .leave => none
  | .timecodeLineByte a _ => some a

namespace Machine

/-! ### Position Tracker -/

/-- The ranges of a tracker context (R2, R11, R12). -/
structure TrackerOk (t : Tracker) : Prop where
  ticks : t.est.ticks ≤ Config.maxPosition
  frac : t.est.frac < 65536
  trim : -64 ≤ t.trim ∧ t.trim ≤ 64
  agree : 1 ≤ t.agree ∧ t.agree ≤ 3
  acquiring : t.state = .acquire → t.agree ≤ 2
  lastTc : ∀ x, t.lastTc = some x → x ≤ Config.maxPosition
  repeats : t.repeats ≤ 2
  lossSpan : 60 ≤ t.lossSpan ∧ t.lossSpan ≤ 150
  lossTimer : ∀ n, t.lossTimer = some n → n < t.lossSpan
  holdTimer : ∀ n, t.holdTimer = some n → n ≤ 4800
  tcOffset : -600 ≤ t.tcOffset ∧ t.tcOffset ≤ 600
  freewheelLimit : t.freewheelLimit ≤ 4800
  catchUpLimit : 24 ≤ t.catchUpLimit ∧ t.catchUpLimit ≤ 1200

/-- Every tracker context is in its ranges. -/
def State.TrackersOk (s : State) : Prop := ∀ a : Aud, TrackerOk (s.aud a).tracker

/-! ### Fetch Engine -/

/-- The requests of one party in a queue. -/
def queuedOf (queue : List QueuedRequest) (p : Party) : Nat :=
  (queue.filter (fun q => decide (q.request.party = p))).length

/-- The programme reads of one auditorium among the reads in flight. -/
def programmeReadsOf (flights : List Flight) (a : Aud) : Nat :=
  (flights.filter (fun x => x.request.attachTag.isSome && decide (x.request.party = Party.slot a))).length

/-- The places and counts of the Fetch Engine (R75, R78). -/
structure FetchOk (f : FetchEngine) : Prop where
  places : f.queue.length ≤ 32
  counted : ∀ p : Party, f.queuedCount[p] = queuedOf f.queue p
  partyPlaces : ∀ p : Party, f.queuedCount[p] ≤ 4
  flights : f.inFlight.length ≤ 4
  tags : (f.inFlight.map Flight.tag).Nodup
  nextTag : ∀ x ∈ f.inFlight, x.tag < f.nextTag
  reads : ∀ a : Aud, f.programmeReads[a] = programmeReadsOf f.inFlight a

/-! ### Register window -/

/-- What holds while the part is not enabled, and of the base always (R78, R186, R187). -/
structure StoppedOk (s : State) : Prop where
  base : s.regs.kxbase &&& 0x3FFF#64 = 0
  auditoriums : s.regs.enable = false → ∀ a : Aud, (s.aud a).state = .off
  queue : s.regs.enable = false → s.fetch.queue = []
  inFlight : s.regs.enable = false → s.fetch.inFlight = []
  knote : s.regs.enable = false → s.regs.knote = 0

/-! ### Text Pool -/

/-- Whether a block is held by an entry of an auditorium. -/
def PoolBlock.heldBy (b : PoolBlock) (a : Aud) : Bool :=
  match b.holder with
  | some (a', _) => decide (a' = a)
  | none => false

/-- The pool agrees with the windows (R85, R86, R87): a block is held by exactly the entry that lists it, a
reserve block by its own auditorium, the holdings count the blocks, and the entries that wait are LOADING TEXT entries
without blocks (R51). -/
structure PoolOk (s : State) : Prop where
  holder : ∀ (b : BlockIx) (a : Aud) (e : EntryIx),
    s.pool.blocks[b].holder = some (a, e) ↔ b ∈ ((s.aud a).window.entry e).blocks
  nodup : ∀ (a : Aud) (e : EntryIx), ((s.aud a).window.entry e).blocks.Nodup
  reserve : ∀ (b : BlockIx) (a : Aud) (e : EntryIx),
    b.val < 256 → s.pool.blocks[b].holder = some (a, e) → a.val = b.val / 16
  reserveHeld : ∀ a : Aud, s.pool.reserveHeld[a] =
    ((List.finRange 512).filter (fun (b : BlockIx) => !isShared b && s.pool.blocks[b].heldBy a)).length
  sharedHeld : ∀ a : Aud, s.pool.sharedHeld[a] =
    ((List.finRange 512).filter (fun (b : BlockIx) => isShared b && s.pool.blocks[b].heldBy a)).length
  waitNodup : ∀ a : Aud, (s.aud a).window.poolWait.Nodup
  waiting : ∀ (a : Aud), ∀ e ∈ (s.aud a).window.poolWait,
    ∃ c, (s.aud a).window.entry e = .judged .loading c ∧ c.kind = .text ∧ c.blocks = []

/-! ### Cue Window -/

/-- A window against its state and its auditorium's (R51, R54, R73). -/
structure WindowOk (x : Auditorium) : Prop where
  outsideShow : x.state ≠ .show → x.window.state = .stopped
  stopped : x.window.state = .stopped →
    (∀ e : EntryIx, x.window.entry e = .free) ∧ x.window.offers = [] ∧ x.window.poolWait = []
  seeking : x.window.state = .seeking ↔ x.window.search.isSome = true
  serving : x.window.state = .serving ↔ x.window.cursor.isSome = true

/-! ### Release Unit -/

/-- A TEXT or CLEAR cue routes to a channel (R94). -/
abbrev Routes (d : ChannelDescriptor) (c : EntryCue) : Prop :=
  d.kind = .text ∧ c.trackMask.getLsbD d.track.val = true ∧ d.classCare &&& (c.classFlags ^^^ d.classMatch) = 0

/-- A cue covers a row (R95). -/
abbrev Covers (c : EntryCue) (r : RowIx) : Prop :=
  c.firstRow.val ≤ r.val ∧ r.val < c.firstRow.val + c.lines

/-- The pages against the channels' kinds, the auditorium state and the window: a row with an owner is owned by an
ACTIVE TEXT entry that routes to the channel and covers the row (R95, R112). -/
structure PagesOk (x : Auditorium) : Prop where
  blank : ∀ (c : Chan) (r : RowIx),
    x.release.pages[c][r].owner = none → x.release.pages[c][r].cells = Row.blankCells
  textOnly : ∀ (c : Chan) (r : RowIx),
    x.release.channels[c].kind ≠ .text → x.release.pages[c][r].owner = none
  inShow : ∀ (c : Chan) (r : RowIx), x.state ≠ .show → x.release.pages[c][r].owner = none
  owned : ∀ (c : Chan) (r : RowIx) (o : RowOwner), x.release.pages[c][r].owner = some o → ∃ e d,
    x.window.entry e = .judged .active d ∧ d.kind = .text ∧ d.ordinal = o.ordinal ∧ d.start = o.start
      ∧ Routes x.release.channels[c] d ∧ Covers d r

/-! ### Description Streamer -/

/-- The places of the streamer (R115). -/
structure StreamerOk (u : Streamer) : Prop where
  carriages : ∀ c : Chan, u.streams[c].cues.length ≤ 4
  packets : ∀ c : Chan, u.streams[c].queue.length ≤ 12
  counted : u.bufferCount = countPackets u.streams
  buffers : u.bufferCount ≤ 24

/-- A cue list in its places: at most four carriages, of different cues (R115, R118). -/
structure CuesApart (x : Stream) : Prop where
  places : x.cues.length ≤ 4
  apart : (x.cues.map Carriage.ordinal).Nodup

/-- A stream context in order (R115, R119, R124): the fetch carriage is on the cue list, each packet belongs to a carriage
of the list but to none behind the fetch carriage, and no carriage is complete. -/
structure CarriagesOk (x : Stream) : Prop extends CuesApart x where
  fetched : ∀ o, x.fetch = some o → o ∈ x.cues.map Carriage.ordinal
  queued : ∀ p ∈ x.queue, p.ordinal ∈ x.cues.map Carriage.ordinal
  waiting : ∀ z ∈ x.behindFetch, ∀ p ∈ x.queue, p.ordinal ≠ z.ordinal
  unfinished : ∀ y ∈ x.cues, x.isComplete y = false

/-- The cues of an auditorium against each other (R32, R39, R53, R56, R57, R115, R118): the window's entries hold different
ordinals, all below the record at the cursor, and none without a cursor; the segments have at most 4096 records; and
the stream contexts are in order, each carriage being that of an ACTIVE AUDIO entry. -/
structure CuesOk (x : Auditorium) : Prop where
  distinct : ∀ (e e' : EntryIx) (o : Nat),
    (x.window.entry e).ordinal? = some o → (x.window.entry e').ordinal? = some o → e = e'
  below : ∀ sg i, x.window.cursor = some (sg, i) → ∀ (e : EntryIx) (o : Nat),
    (x.window.entry e).ordinal? = some o → o < sg * 4096 + i
  empty : x.window.cursor = none → ∀ e : EntryIx, x.window.entry e = .free
  counts : ∀ g ∈ x.programme.table, g.count ≤ 4096
  carriages : ∀ c : Chan, CarriagesOk x.streamer.streams[c]
  active : ∀ (c : Chan), ∀ y ∈ x.streamer.streams[c].cues, ∃ d,
    x.window.entry y.entry = .judged .active d ∧ d.kind = .audio ∧ d.ordinal = y.ordinal

/-! ### Lane Controller -/

/-- Whether a frame is eight frame slots with a beacon first (R137). -/
def isFrame (f : List FrameSlot) : Prop :=
  f.length = 8 ∧ ∃ b, f.head? = some (.beacon b)

/-- A lane's lists and frames (R132, R133, R134). -/
structure LaneOk (x : Auditorium) : Prop where
  dirty : x.lane.dirty.Nodup
  replies : x.lane.replies.length ≤ 8
  intake : x.lane.intake.length ≤ 8
  zeroAudience : x.lane.zeroAudience < 30
  held : ∀ f, x.lane.held = some f → isFrame f
  onAir : ∀ f, x.lane.onAir = some f → isFrame f
  off : x.state = .off ↔ x.lane.state = .off
  silent : x.lane.state = .off → x.lane = Lane.reset

/-! ### Device Table -/

/-- The ACTIVE entries recorded on a channel of an auditorium (R153). -/
def DeviceTable.activeOn (t : DeviceTable) (a : Aud) (c : Chan) : Nat :=
  (t.entries.toList.filter (fun d =>
    match d with
    | some d => decide (d.status = .active ∧ d.auditorium = a ∧ d.channel = c)
    | none => false)).length

/-- The table's counts, ids and thresholds (R151, R153, R154). -/
structure DevicesOk (t : DeviceTable) : Prop where
  audience : ∀ (a : Aud) (c : Chan), t.audience[a][c] = t.activeOn a c
  unique : ∀ (i j : Fin 1024) (d e : Device),
    t.entries[i] = some d → t.entries[j] = some e → d.id = e.id → i = j
  quiet : 2 ≤ t.quietThreshold ∧ t.quietThreshold ≤ 60
  release : 10 ≤ t.releaseThreshold ∧ t.releaseThreshold ≤ 600
  apart : t.quietThreshold < t.releaseThreshold

/-! ### Incident Unit -/

/-- What every incident record keeps (R191, R192). -/
structure IncidentOk (r : IncidentRecord) : Prop where
  overflow : r.overflow = true → r.valid = true
  minorCount : r.minorCount ≤ 65535
  address : r.addressValid = false → r.address = 0
  ordinal : r.ordinalValid = false → r.ordinal = 0

/-- Every incident record, and the site's P at the incident, which is 0 (R191). -/
structure IncidentsOk (s : State) : Prop where
  records : ∀ p : Party, IncidentOk (s.incident p)
  site : (s.incident Party.site).position = 0

/-! ### What a command asks for and does, in the statements' terms -/

/-- A DIRECTORY read of a party's host half, field by field (R76, R180). -/
def State.halfRead (s : State) (p : Party) : Request where
  party := p
  purpose := .directory
  requester := .exchange
  ordinal := none
  attachTag := none
  seekTag := none
  epochTag := s.fetch.runEpoch
  address := (s.regs.kxbase &&& ~~~0x3FFF#64)
    + BitVec.ofNat 64 (if p = Party.site then 0x0000 else 0x0400 + 0x200 * p.val)
  length := 256
  terms := .fixed 1

/-- A MIRROR_WRITE of a party's mirror half, field by field (R76, R180). -/
def State.halfWrite (s : State) (p : Party) : Request where
  party := p
  purpose := .mirrorWrite
  requester := .exchange
  ordinal := none
  attachTag := none
  seekTag := none
  epochTag := s.fetch.runEpoch
  address := (s.regs.kxbase &&& ~~~0x3FFF#64)
    + BitVec.ofNat 64 (if p = Party.site then 0x0100 else 0x0500 + 0x200 * p.val)
  length := 256
  terms := .fixed 3

/-- The fetch state with a request of a class at the end of the queue (R77, R78). -/
def FetchEngine.withEntered (f : FetchEngine) (r : Request) (cls : Fin 4) : FetchEngine :=
  { f with queue := f.queue ++ [⟨r, cls⟩], queuedCount := f.queuedCount.set r.party (f.queuedCount[r.party] + 1) }

/-- From `s` to `t` a scan read of a party is made, and nothing else happens (R182): it enters the queue in class
1, or joins the Exchange Unit's offer list where it is refused. -/
def ScanReadMade (p : Party) (s t : State) : Prop :=
  t.exchange.parties = s.exchange.parties.set p { s.party p with directoryRead := .scan }
    ∧ (if s.offerResult p = .entered then
        t.fetch = s.fetch.withEntered (s.halfRead p) 1 ∧ t.exchange.offers = s.exchange.offers
      else t.fetch = s.fetch ∧ t.exchange.offers = s.exchange.offers ++ [s.halfRead p])
    ∧ t.exchange.departures = s.exchange.departures
    ∧ t = { s with fetch := t.fetch, exchange := t.exchange }

/-- From `s` to `t` the departure event of a party goes to each block that holds a refused request, and the windows,
programme contexts and streamers are otherwise as they were (R79). -/
def DepartureHanded (p : Party) (s t : State) : Prop :=
  (∀ b : Aud, t.aud b = { s.aud b with
      window := { (s.aud b).window with
        departures := (s.aud b).window.departures ++ (if (s.aud b).window.offers = [] then [] else [p]) }
      programme := { (s.aud b).programme with
        departures := (s.aud b).programme.departures ++ (match (s.aud b).programme.batch with
          | .waiting _ => [p]
          | _ => []) }
      streamer := { (s.aud b).streamer with
        departures := (s.aud b).streamer.departures ++ (if (s.aud b).streamer.offers = [] then [] else [p]) } })
    ∧ t.exchange.offers = s.exchange.offers
    ∧ t.exchange.departures = s.exchange.departures ++ (if s.exchange.offers = [] then [] else [p])

/-- The requests a streamer's list still wants: an AWAITED packet entry of the cue and index, or a carriage of the cue on
the channel (R121). -/
def Wanted (u : Streamer) (r : Request) : Prop :=
  (∃ c k, r.requester = .streamPacket c k ∧ ∃ p ∈ u.streams[c].queue,
      some p.ordinal = r.ordinal ∧ p.index = k ∧ p.body = none)
    ∨ ∃ c k, r.requester = .streamBatch c k ∧ ∃ y ∈ u.streams[c].cues, some y.ordinal = r.ordinal

/-- Whether the first waiting entry of an auditorium is one the pool can serve, with its cue and the blocks it gets
(R86, R88). -/
def Servable (s : State) (a : Aud) (e : EntryIx) (c : EntryCue) (bs : List BlockIx) : Prop :=
  (∃ rest, (s.aud a).window.poolWait = e :: rest) ∧ (s.aud a).window.entry e = .judged .loading c
    ∧ s.pool.choose a ((c.lines * 40 + 15) / 16) = some bs

/-- The seek order the Cue Window receives of a tracker's order (R27). -/
def TrackerOrder.forWindow : TrackerOrder → List SeekOrder
  | .seek target gen => [⟨target, gen⟩]
  | _ => []

/-- An auditorium after an event of its tracker context (R15, R19, R20, R27): the new context, "slips" and "seeks"
raised, the order handed to the Release Unit and the streamer, and a seek order to the window too. -/
def Auditorium.afterTracker (x : Auditorium) (ev : TrackerEvent) : Auditorium :=
  { x with
    tracker := ev.tracker
    counters := (x.counters.set (1 : Fin 16) (x.counters[(1 : Fin 16)] + BitVec.ofNat 32 ev.slips)).set
      (2 : Fin 16) (x.counters[(2 : Fin 16)] + BitVec.ofNat 32 ev.seeks)
    release := { x.release with orders := x.release.orders ++ ev.order.toList }
    streamer := { x.streamer with orders := x.streamer.orders ++ ev.order.toList }
    window := { x.window with
      orders := x.window.orders ++ ev.order.toList.flatMap TrackerOrder.forWindow } }

/-- The machine after such an event: one notice reason where the tracker state has changed (R28). -/
def State.afterTracker (s : State) (a : Aud) (x : Auditorium) (ev : TrackerEvent) : State :=
  let t := s.setAud a (x.afterTracker ev)
  if ev.tracker.state = x.tracker.state then t else t.raiseReason (Party.slot a)

/-- The conditions of R46 for the segment at the retire mark. -/
def MayRetire (x : Auditorium) : Prop :=
  x.state = .show ∧ x.window.state = .serving
    ∧ ∃ g sg i, x.programme.table[x.programme.retireMark]? = some g
      ∧ x.window.cursor = some (sg, i) ∧ x.programme.retireMark < sg
      ∧ (∀ e o, (x.window.entry e).ordinal? = some o → o / 4096 ≠ x.programme.retireMark)
      ∧ g.lastTicks + 36000 + x.programme.keepBack ≤ x.tracker.est.ticks

/-- The conditions of R56, with the entry `e` to take, the cursor `(sg, i)` and its segment `g`. -/
def MayRefill (x : Auditorium) (e : EntryIx) (sg i : Nat) (g : Segment) : Prop :=
  x.window.state = .serving ∧ x.window.cursor = some (sg, i) ∧ x.programme.table[sg]? = some g
    ∧ x.window.entry e = .free ∧ (∀ e' : EntryIx, e' < e → x.window.entry e' ≠ .free)
    ∧ x.window.nonActive < 48
    ∧ (∀ r, x.programme.orderFloor = some r → r < x.tracker.est.ticks + 12000)
    ∧ ∀ r ∈ x.window.offers, r.purpose ≠ .cueRecord

/-- The read of a bus tag is in flight for an auditorium, and its tags stand (R82). -/
structure ReadStands (s : State) (tag : Nat) (x : Flight) (a : Aud) : Prop where
  flight : s.fetch.flight tag = some x
  party : x.request.party = Party.slot a
  epoch : x.request.epochTag = s.fetch.runEpoch
  attach : x.request.attachTag = some s.fetch.attachGen[a]
  seek : x.request.seekTag = none ∨ x.request.seekTag = some (s.aud a).tracker.seekGen

/-- The auditorium whose programme read a read is: that of its slot, where the read carries an attach tag (R75, R82). -/
def Flight.programmeOf (x : Flight) : Option Aud := if x.request.attachTag.isSome then x.request.party.aud? else none

/-- An auditorium's programme reads in flight once the read has left (R75, R82). -/
def State.readsLeft (s : State) (x : Flight) (a : Aud) : Nat :=
  if x.programmeOf = some a then s.fetch.programmeReads[a] - 1 else s.fetch.programmeReads[a]

/-- Whether the end of the read drains the auditorium: its own programme read, the last one in flight, in CLOSING
(R84). -/
def State.drains (s : State) (x : Flight) (a : Aud) : Bool :=
  decide (x.programmeOf = some a ∧ s.readsLeft x a = 0 ∧ (s.aud a).state = .closing)

/-- From `s` to `u` the read leaves the in-flight set, its auditorium's programme reads fall by one, and the drained event
is handed where they come to 0 in CLOSING; beyond these counts nothing happens (R82, R84). -/
def ReadGone (s u : State) (x : Flight) : Prop :=
  u = { s with fetch := { s.fetch with
    inFlight := s.fetch.inFlight.filter (fun y => decide (y.tag ≠ x.tag))
    programmeReads := vofFn (s.readsLeft x)
    drained := vofFn (fun a => s.fetch.drained[a] || s.drains x a) } }

/-- The read of a bus tag ends as FAULT, by a bus error as by its timeout, and `t` is the state it leaves (R82). -/
def Faults (tag : Nat) (s t : State) : Prop :=
  exec (.readTimeout tag) s = .next t ∧ exec (.readCompletion tag .busError) s = .next t

/-- A programme request of the window or the streamer for a cue, with the tags as they stand (R58, R76, R120, R121). -/
def State.cueRequestOf (s : State) (a : Aud) (purpose : Purpose) (requester : Requester) (ordinal : Nat)
    (address : HostAddr) (length : Nat) (terms : ClassTerms) : Request where
  party := Party.slot a
  purpose := purpose
  requester := requester
  ordinal := some ordinal
  attachTag := some s.fetch.attachGen[a]
  seekTag := some (s.aud a).tracker.seekGen
  epochTag := s.fetch.runEpoch
  address := address
  length := length
  terms := terms

/-- From `u` to `t` a window makes one request: it enters the queue with its class, or joins the end of the offer
list where it is refused (R58). -/
def WindowAsked (a : Aud) (u t : State) (r : Request) : Prop :=
  if u.offerResult (Party.slot a) = .entered then
    t.fetch = u.fetch.withEntered r (u.classOf r) ∧ (t.aud a).window.offers = (u.aud a).window.offers
  else t.fetch = u.fetch ∧ (t.aud a).window.offers = (u.aud a).window.offers ++ [r]

/-- From `v` to `w` an entry joins the pool wait list at its place in window order (R55, R59): behind every waiting entry
of a (start, ordinal) not above its own up to the first that is above it, with nothing else moved. -/
def WaitsInPlace (e : EntryIx) (c : EntryCue) (v w : Window) : Prop :=
  ∃ before after, v.poolWait = before ++ after ∧ w.poolWait = before ++ e :: after
    ∧ (∀ x ∈ before, ∀ stage d, w.entry x = .judged stage d →
        d.start < c.start ∨ (d.start = c.start ∧ d.ordinal ≤ c.ordinal))
    ∧ ∀ x more, after = x :: more → ∀ stage d, w.entry x = .judged stage d →
        c.start < d.start ∨ (c.start = d.start ∧ c.ordinal < d.ordinal)

/-- From `u` to `t` an entry is filled from a taken record, by kind (R59): a CLEAR is READY at once and its ready event
is handed; an AUDIO cue is LOADING and its table head is asked for; a TEXT cue is LOADING, with its blocks and its text
asked for where no entry waits and the pool has them, and at its place on the wait list otherwise. -/
def EntryFilled (a : Aud) (e : EntryIx) (u t : State) (c : EntryCue) : Prop :=
  match c.kind with
  | .clear =>
    (t.aud a).window.entry e = .judged .ready c ∧ t.fetch = u.fetch ∧ t.pool = u.pool
      ∧ (t.aud a).release.readies = (u.aud a).release.readies ++ [c.ordinal]
  | .audio =>
    (t.aud a).window.entry e = .judged .loading c ∧ t.pool = u.pool
      ∧ WindowAsked a u t (u.cueRequestOf a .audioList (.windowEntry e) c.ordinal
          (c.reference + BitVec.ofNat 64 (16 * c.head)) (16 * (min (c.head + 16) c.count - c.head))
          (.tableHead (c.start + 24 * c.head) c.start))
  | .text =>
    match (if (u.aud a).window.poolWait = [] then u.pool.choose a ((c.lines * 40 + 15) / 16) else none) with
    | some bs =>
      (t.aud a).window.entry e = .judged .loading { c with blocks := bs } ∧ (t.aud a).window.poolWait = []
        ∧ t.pool = u.pool.grant a e bs
        ∧ WindowAsked a u t (u.cueRequestOf a .text (.windowEntry e) c.ordinal c.reference (80 * c.lines)
            (.near c.start))
    | none =>
      (t.aud a).window.entry e = .judged .loading c ∧ WaitsInPlace e c (u.aud a).window (t.aud a).window
        ∧ t.fetch = u.fetch ∧ t.pool = u.pool

/-- No record that has arrived could be judged now: every one waits behind a FETCHING entry of an ordinal not above its
own whose record has not arrived (R41). -/
def RecordsJudged (w : Window) : Prop :=
  ∀ e o address r, w.entry e = .fetching o address (some r) →
    ∃ e' o' address', w.entry e' = .fetching o' address' none ∧ o' ≤ o

/-- The window's tests on a taken record (R59, R71), from `u` to `t`: while re-placing is off the record fills its entry;
while it is on, the first test of R71 that holds passes it, flags it as resumed or as a catch-up with its head index, or
ends the re-placing. -/
def RecordPlaced (a : Aud) (e : EntryIx) (u t : State) (c : EntryCue) : Prop :=
  let w := (u.aud a).window
  let reached := (u.position a + 12 - c.start + 23) / 24
  let head := if c.kind = .audio then reached else 0
  let passed := if c.kind = .audio then c.count ≤ reached else c.finish ≤ u.position a
  let resumed := ∃ b, w.resumeBound = some b ∧ c.start < b
  (w.rePlacing = false → EntryFilled a e u t c ∧ (t.aud a).window.rePlacing = false)
    ∧ (w.rePlacing = true →
      (passed → (t.aud a).window.entry e = .free ∧ (t.aud a).window.rePlacing = true ∧ t.fetch = u.fetch
        ∧ t.pool = u.pool)
      ∧ (¬passed → resumed → EntryFilled a e u t { c with resumed := true, head := head }
        ∧ (t.aud a).window.rePlacing = true)
      ∧ (¬passed → ¬resumed → c.start ≤ u.position a →
        EntryFilled a e u t { c with catchUp := true, head := head } ∧ (t.aud a).window.rePlacing = true)
      ∧ (¬passed → ¬resumed → u.position a < c.start →
        EntryFilled a e u t c ∧ (t.aud a).window.rePlacing = false))

/-- One record judged, from `u` to `t` (R41 to R44, R60): bad or out of order it frees its entry with one MINOR report of
its address and ordinal; taken it raises the order floor, counts the fields brought into range (log 36), and goes through
the window's tests. No other entry changes. -/
def RecordStep (a : Aud) (e : EntryIx) (o : Nat) (address : HostAddr) (r : CueRecord) (u t : State) : Prop :=
  let x := u.aud a
  let skipped := fun (code : IncidentCode) =>
    (t.aud a).window.entry e = .free ∧ (t.aud a).programme = x.programme ∧ (t.aud a).counters = x.counters
      ∧ t.pool = u.pool ∧ t.incidents = (u.report (Party.slot a) .minor code (some address) (some o)).incidents
  (∀ e', e' ≠ e → (t.aud a).window.entry e' = x.window.entry e')
    ∧ match r.judge x.programme.editRate x.programme.orderFloor o with
      | .bad => skipped .cueBad
      | .disordered => skipped .cueOrder
      | .taken c n =>
        (t.aud a).programme = { x.programme with orderFloor := some c.start }
          ∧ (t.aud a).counters = x.counters.set (7 : Fin 16) (x.counters[(7 : Fin 16)] + BitVec.ofNat 32 n)
          ∧ t.incidents = u.incidents ∧ RecordPlaced a e u t c

/-- From `u` to `t` a search completes with the cursor placed (R70): the window is SERVING, re-placing is on with the
target as its resume bound, the reach is unknown, and nothing else changes. -/
def SearchPlaced (a : Aud) (u t : State) (target : Nat) (cursor : Nat × Nat) : Prop :=
  t = u.setAud a { u.aud a with
    window := { (u.aud a).window with
      state := .serving, cursor := some cursor, resumeBound := some target, rePlacing := true, search := none }
    programme := { (u.aud a).programme with orderFloor := none } }

/-- From `u` to `t` the probing of segment `g` goes on or ends (R69): while lo is below hi the middle record is probed,
with a request that carries that record's ordinal (the model's choice, log 37); otherwise the cursor is placed at record
lo, or at the next segment where there is no such record. -/
def ProbingGoesOn (a : Aud) (u t : State) (q : Search) (g : Segment) : Prop :=
  let mid := (q.lo + q.hi) / 2
  let r := { u.cueRequestOf a .probe .windowSearch (q.segment * 4096 + mid)
      (g.address + BitVec.ofNat 64 (32 * mid)) 32 (.fixed 1) with seekTag := some q.gen }
  (q.lo < q.hi → (t.aud a).window.search = some { q with probe := some mid } ∧ WindowAsked a u t r
      ∧ t = { u.setAud a { u.aud a with window := { (u.aud a).window with
          search := (t.aud a).window.search, offers := (t.aud a).window.offers } } with fetch := t.fetch })
    ∧ (q.hi ≤ q.lo → q.lo < g.count → SearchPlaced a u t q.target (q.segment, q.lo))
    ∧ (q.hi ≤ q.lo → g.count ≤ q.lo → SearchPlaced a u t q.target (q.segment + 1, 0))

/-- Whether a search target lies in retired ground (R49). -/
def RetiredGround (p : Programme) (target : Nat) : Prop :=
  0 < p.retireMark
    ∧ ((∃ g, p.table[p.retireMark]? = some g ∧ target < g.firstTicks)
      ∨ (p.table[p.retireMark]? = none ∧ ∃ g, p.table.getLast? = some g ∧ target < g.lastTicks + 36000))

/-- From `u` to `t` the target of a search is fixed (R49, R68): with every segment retired, or none reaching the target,
the cursor is placed past the table; with the first segment that reaches it starting at or after it, the cursor is
placed at its first record; and otherwise that segment is probed. -/
def TargetFixed (a : Aud) (u t : State) (q : Search) : Prop :=
  let p := (u.aud a).programme
  (p.table[p.retireMark]? = none → SearchPlaced a u t q.target (p.table.length, 0))
    ∧ ∀ floor, p.table[p.retireMark]? = some floor →
      let target := max (q.target - 36000) floor.firstTicks
      ((∀ k g, p.retireMark ≤ k → p.table[k]? = some g → g.lastTicks < target) →
        SearchPlaced a u t q.target (p.table.length, 0))
        ∧ ∀ k g, p.retireMark ≤ k → p.table[k]? = some g → target ≤ g.lastTicks →
          (∀ j h, p.retireMark ≤ j → j < k → p.table[j]? = some h → h.lastTicks < target) →
          (target ≤ g.firstTicks → SearchPlaced a u t q.target (k, 0))
            ∧ (g.firstTicks < target →
              ProbingGoesOn a u t { q with
                awaitsTable := false, searchTarget := target, segment := k, lo := 0, hi := g.count
                probe := none } g)

/-- The target of a search fixed, after one MINOR RETIRED_SEEK where it lies in retired ground (R49, R68). -/
def TargetTaken (a : Aud) (u t : State) (q : Search) : Prop :=
  (RetiredGround (u.aud a).programme q.target →
      TargetFixed a (u.report (Party.slot a) .minor .retiredSeek none none) t q)
    ∧ (¬RetiredGround (u.aud a).programme q.target → TargetFixed a u t q)

/-- Whether an AUDIO entry is READY and due within 480 ticks (R117). -/
def DueAudio (s : State) (a : Aud) (e : EntryIx) (c : EntryCue) : Prop :=
  (s.aud a).window.entry e = .judged .ready c ∧ c.kind = .audio ∧ c.start ≤ s.position a + 480

/-- The release gate of a check, condition by condition (R98), as the tracker stands (log 50); the last is asked for at a
local tick or a ready event. -/
def ReleaseGateOpen (x : Auditorium) (testCurrent : Bool) : Prop :=
  x.state = .show
    ∧ (x.tracker.state = .locked ∨ x.tracker.state = .freewheel ∨ x.tracker.state = .paused)
    ∧ x.window.state = .serving ∧ x.release.windowGen = x.release.takenGen
    ∧ (testCurrent = true → x.release.takenGen = x.tracker.seekGen)

/-- The stream gate, condition by condition (R117, R125), as the tracker stands (log 50). -/
def StreamGateOpen (x : Auditorium) (testCurrent : Bool) : Prop :=
  x.state = .show
    ∧ (x.tracker.state = .locked ∨ x.tracker.state = .freewheel ∨ x.tracker.state = .paused)
    ∧ x.window.state = .serving ∧ x.streamer.windowGen = x.streamer.takenGen
    ∧ (testCurrent = true → x.streamer.takenGen = x.tracker.seekGen)

/-- A row blanked once (R96). -/
def Row.blanked (row : Row) : Row := ⟨Row.blankCells, none, row.version + 1⟩

/-- From `x` to `y` every row of every TEXT channel is blanked once and no other row changes (R109, R111). -/
def TextPagesBlanked (x y : Auditorium) : Prop :=
  ∀ (c : Chan) (r : RowIx), y.release.pages[c][r] =
    if x.release.channels[c].kind = .text then x.release.pages[c][r].blanked else x.release.pages[c][r]

/-- Dirty events for rows, in their order (R140): each joins the end of the dirty list of a lane that is not OFF,
unless it stands there. -/
def Lane.dirtied (l : Lane) (rows : List (Chan × RowIx)) : Lane :=
  rows.foldl (fun l x => if l.state = .off ∨ x ∈ l.dirty then l else { l with dirty := l.dirty ++ [x] }) l

/-- The rows of every TEXT channel, in ascending channel and row order (R96). -/
def Auditorium.textRows (x : Auditorium) : List (Chan × RowIx) :=
  ((List.finRange 4).flatMap (fun c => (List.finRange 4).map (fun r => (c, r)))).filter (fun y =>
    decide (x.release.channels[y.1].kind = .text))

/-- The rows that a cue owns, in ascending channel and row order (R106). -/
def Auditorium.rowsOwnedBy (x : Auditorium) (ordinal : Nat) : List (Chan × RowIx) :=
  ((List.finRange 4).flatMap (fun c => (List.finRange 4).map (fun r => (c, r)))).filter (fun y =>
    decide (x.release.pages[y.1][y.2].owner.map RowOwner.ordinal = some ordinal))

/-! ### What a release changes, in the statements' terms -/

/-- The rows a released TEXT cue takes: of the channels it routes to, those it covers whose owner is none or an earlier
cue by (start, ordinal), in ascending channel and row order (R102). -/
def State.rowsToTake (s : State) (a : Aud) (c : EntryCue) : List (Chan × RowIx) :=
  allRows.filter (fun y =>
    decide (Routes (s.aud a).release.channels[y.1] c ∧ Covers c y.2)
      && (match (s.row a y.1 y.2).owner with
        | none => true
        | some o => decide (o.start < c.start ∨ (o.start = c.start ∧ o.ordinal < c.ordinal))))

/-- The rows a released CLEAR blanks: of the channels it routes to, those it covers whose owner starts at or before it,
in ascending channel and row order (R107). -/
def State.rowsToClear (s : State) (a : Aud) (c : EntryCue) : List (Chan × RowIx) :=
  allRows.filter (fun y =>
    decide (Routes (s.aud a).release.channels[y.1] c ∧ Covers c y.2)
      && (match (s.row a y.1 y.2).owner with
        | none => false
        | some o => decide (o.start ≤ c.start)))

/-- From `s` to `t` exactly the listed rows change, to the rows given, and the lane is handed their dirty events in that
order (R96). -/
def RowsChanged (a : Aud) (s t : State) (rows : List (Chan × RowIx)) (new : Chan → RowIx → Row) : Prop :=
  (∀ (c : Chan) (r : RowIx), t.row a c r = if (c, r) ∈ rows then new c r else s.row a c r)
    ∧ (t.aud a).lane = (s.aud a).lane.dirtied rows

/-- From `s` to `t` the Release Unit hands the window one leave and does no more to it, and the ordinal stands on the
leaving list, once (R91, R103). -/
def LeaveHanded (a : Aud) (e : EntryIx) (ordinal : Nat) (s t : State) : Prop :=
  (t.aud a).window = { (s.aud a).window with leaves := (s.aud a).window.leaves ++ [⟨e, ordinal⟩] }
    ∧ (t.aud a).release.leaving = (s.aud a).release.leaving
        ++ (if ordinal ∈ (s.aud a).release.leaving then [] else [ordinal])

/-- From `s` to `t` nothing changes but what the Release Unit acts on: of its auditorium the pages and the leaving list,
the lane, the window's entries and leaves and the counters; and the incidents with the mirror writes that their notice
reasons ask for. -/
def ReleaseActs (a : Aud) (s t : State) : Prop :=
  t.aud a = { s.aud a with
      release := { (s.aud a).release with
        pages := (t.aud a).release.pages, leaving := (t.aud a).release.leaving }
      window := { (s.aud a).window with
        entries := (t.aud a).window.entries, leaves := (t.aud a).window.leaves }
      lane := (t.aud a).lane, counters := (t.aud a).counters }
    ∧ t = { s.setAud a (t.aud a) with fetch := t.fetch, exchange := t.exchange, incidents := t.incidents }

/-- From `s` to `t` the counters rise by what `n` says of each, and no other moves (R196). -/
def CountersRaised (a : Aud) (s t : State) (n : Fin 16 → Nat) : Prop :=
  ∀ k : Fin 16, (t.aud a).counters[k] = (s.aud a).counters[k] + BitVec.ofNat 32 (n k)

/-- A READY TEXT or CLEAR entry that a check may act on (R99). -/
def MayRelease (s : State) (a : Aud) (e : EntryIx) (c : EntryCue) : Prop :=
  (s.aud a).window.entry e = .judged .ready c ∧ c.kind ≠ .audio ∧ c.ordinal ∉ (s.aud a).release.leaving

/-! ### Fetching ahead and losing packets, in the statements' terms -/

/-- The conditions that a packet request and a table batch share: the fetch carriage has an index left to fetch that
is due, the gate is open and the channel has an audience (R120, R121). -/
def FetchDue (s : State) (a : Aud) (c : Chan) (y : Carriage) : Prop :=
  StreamGateOpen (s.aud a) true ∧ 0 < s.audience a c
    ∧ (s.stream a c).fetchCarriage = some y ∧ (s.stream a c).nextIndex < y.stop
    ∧ y.start + 24 * (s.stream a c).nextIndex ≤ s.position a + 480

/-! ### A frame, level by level -/

/-- What a FULL lane's frame carries, level by level (R137): packets, changed rows, replies, forced repeats and rows of
the refresh rotation. -/
structure FramePlan where
  packets : List (Chan × PacketEntry)
  dirty : List (Chan × RowIx)
  replies : List Reply
  forced : List (Chan × RowIx)
  refresh : List (Chan × RowIx)

/-- Whether the streamer acts on a channel at a composition with beacon position B (R123): the show is RUNNING, the gate
is open and the channel is AUDIO. -/
def State.composes (s : State) (a : Aud) (c : Chan) : Bool :=
  decide (showState (s.aud a).tracker.state = .running) && (s.aud a).streamGate true
    && decide ((s.aud a).release.channels[c].kind = .audio)

/-- The packets a channel offers at B (R123): up to two HELD entries from the front of what is not late, presented at or
before B + 240. -/
def State.offersAt (s : State) (a : Aud) (b : Nat) (c : Chan) : List PacketEntry :=
  if s.composes a c && decide (0 < s.audience a c) then
    (((s.stream a c).queue.filter (fun p => decide (b + 12 ≤ p.presentation))).takeWhile (fun p =>
      p.body.isSome && decide (p.presentation ≤ b + 240))).take 2
  else []

/-- The content of the frame a FULL lane composes, each level taking of the seven frame slots what the levels before it
have left (R137, R139, R141, R143, R144, R145). -/
def State.framePlan (s : State) (a : Aud) : FramePlan :=
  let l := (s.aud a).lane
  let offers := s.offersAt a (beaconPosition (s.aud a).tracker)
  let packets := ((List.finRange 4).filterMap (fun c => ((offers c)[0]?).map (fun p => (c, p)))
    ++ (List.finRange 4).filterMap (fun c => ((offers c)[1]?).map (fun p => (c, p)))).take 7
  let left := 7 - packets.length
  let dirty := (l.dirty.filter (fun y => s.rowsHeard a y.1)).take left
  let left := left - dirty.length
  let replies := l.replies.take left
  let left := left - replies.length
  let forced := (allRows.filter (fun y =>
    s.rowsHeard a y.1 && l.forced[y.1][y.2] && !dirty.contains y)).take left
  let left := left - forced.length
  let refresh := (((List.finRange 16).map (fun i => positionRow (l.refresh + i))).filter (fun y =>
    s.rowsHeard a y.1 && !dirty.contains y && !forced.contains y)).take left
  ⟨packets, dirty, replies, forced, refresh⟩

/-- The rows a frame carries, at whatever level. -/
def FramePlan.rows (f : FramePlan) : List (Chan × RowIx) := f.dirty ++ f.forced ++ f.refresh

/-- A row's ROW frame slot, with its cells and version as they stand (R137). -/
def State.rowSlot (s : State) (a : Aud) (y : Chan × RowIx) : FrameSlot :=
  .row y.1 y.2 (s.row a y.1 y.2).version (s.row a y.1 y.2).cells

/-- The frame slots 1..7 of a frame plan (R137): the levels in their order, and EMPTY after them. -/
def FramePlan.slots (f : FramePlan) (s : State) (a : Aud) : List FrameSlot :=
  let placed := f.packets.map (fun y =>
      FrameSlot.audio y.1 (BitVec.ofNat 16 y.2.ordinal) y.2.index y.2.presentation (y.2.body.getD []))
    ++ f.dirty.map (s.rowSlot a) ++ f.replies.map (fun r => .reply r (s.replyVersions a r))
    ++ f.forced.map (s.rowSlot a) ++ f.refresh.map (s.rowSlot a)
  placed ++ List.replicate (7 - placed.length) .empty

/-- What a SPARSE lane's frame carries: replies from the front of the reply queue (R144, R146). -/
def State.sparsePlan (s : State) (a : Aud) : FramePlan := ⟨[], [], (s.aud a).lane.replies.take 7, [], []⟩

/-- The lane after the frame of a plan is composed and held (R136, R137): the rows of unheard channels and the rows
carried are off the dirty list and out of the forced-repeat sets, the replies carried are gone, and the refresh cursor
stands after the last row the rotation gave. -/
def State.planLane (s : State) (a : Aud) (f : FramePlan) (frame : List FrameSlot) : Lane :=
  let l := (s.aud a).lane
  { l with
    onAir := l.held
    held := some frame
    frameNumber := l.frameNumber + 1
    dirty := l.dirty.filter (fun y => s.rowsHeard a y.1 && !f.rows.contains y)
    forced := vofFn (fun c => vofFn (fun r =>
      s.rowsHeard a c && l.forced[c][r] && !f.rows.contains (c, r)))
    replies := l.replies.drop f.replies.length
    refresh := match f.refresh.getLast? with
      | some y => Fin.ofNat 16 (4 * y.1.val + y.2.val + 1)
      | none => l.refresh }

/-- The packets and unfetched indices of a channel whose presentation lies from `lowest` to below `bound` (R123, R125,
R126). -/
def Stream.lostIn (x : Stream) (lowest bound : Nat) : Nat :=
  (x.queue.filter (fun p => decide (lowest ≤ p.presentation ∧ p.presentation < bound))).length
    + (x.passedTo bound - x.passedTo lowest)

/-- The carriages of a channel that lose a packet or an unfetched index whose presentation lies from `lowest` to below
`bound`, in the order of the cue list (R123, R125). -/
def Stream.losersIn (x : Stream) (lowest bound : Nat) : List Carriage :=
  x.cues.filter (fun y =>
    x.queue.any (fun p => decide (p.ordinal = y.ordinal ∧ lowest ≤ p.presentation ∧ p.presentation < bound))
      || decide (x.fetch = some y.ordinal ∧ x.passedTo lowest < x.passedTo bound))

/-- Those of them that AUDIO_LATE is reported for: neither reported before nor quiet (R123). -/
def Stream.reportedIn (x : Stream) (lowest bound : Nat) : List Carriage :=
  (x.losersIn lowest bound).filter (fun y => !y.lateReported && !y.quiet)

/-- One MINOR AUDIO_LATE for each carriage so reported on the channels given, in ascending channel order and there in
the order of the cue list (R123; log 47). -/
def State.audioLate (s : State) (a : Aud) (acts : Chan → Bool) (lowest bound : Nat) : State :=
  ((List.finRange 4).flatMap (fun c => if acts c then (s.stream a c).reportedIn lowest bound else [])).foldl
    (fun s y => s.report (Party.slot a) .minor .audioLate none (some y.ordinal)) s

/-- A sum over the four channels. -/
def overChannels (f : Chan → Nat) : Nat := ((List.finRange 4).map f).sum

/-- The carriages of a stream context that are complete (R124). -/
def Stream.completed (x : Stream) : List Carriage := x.cues.filter (fun y => x.isComplete y)

/-- The fetch of a stream context passed to a carriage: from its first index on, with the descriptors of its entry's
table head from there on in the cache (R119). -/
def Stream.fetching (x : Stream) (w : Window) (z : Carriage) : Stream :=
  { x with
    fetch := some z.ordinal, nextIndex := z.first, cacheBase := z.first
    cache := w.headFrom z.entry z.ordinal z.first }

/-- A stream context settled after a change (R119, R124). The complete carriages are gone from the cue list. A fetch
carriage with an index left to fetch keeps the fetch. Of one that is fetched to its end the fetch passes to the first
carriage behind it that stays and has an index to fetch; behind it none stays, a complete one leaves no fetch
carriage, and one with packets left stays as it is. Nothing else changes. -/
def Stream.settled (x : Stream) (w : Window) : Stream :=
  let left := { x with cues := x.cues.filter (fun y => !x.isComplete y) }
  let behind := x.behindFetch.filter (fun y => !x.isComplete y)
  match x.fetchCarriage with
  | none => left
  | some y =>
    if x.nextIndex < y.stop then left
    else match (behind.find? (fun z => decide (z.first < z.stop))).or behind.getLast? with
      | some z => left.fetching w z
      | none =>
        if x.isComplete y then { left with fetch := none, nextIndex := 0, cacheBase := 0, cache := [] } else left

/-- A stream context that loses what is presented from `lowest` to below `bound`, before it settles (R120, R123, R125,
R126): those packets are out of the queue; where an unfetched index of the fetch carriage is among it the next fetch
index is moved past them, and the descriptors below it have left the cache (log 20 for the indices below `lowest`);
the carriages that AUDIO_LATE is reported for are marked. -/
def Stream.afterLoss (x : Stream) (reports : Bool) (lowest bound : Nat) : Stream :=
  let n := x.passedTo bound
  let y := { x with
    queue := x.queue.filter (fun p => !decide (lowest ≤ p.presentation ∧ p.presentation < bound))
    cues := x.cues.map (fun z => { z with
      lateReported := z.lateReported
        || (reports && (x.reportedIn lowest bound).any (fun v => decide (v.ordinal = z.ordinal))) }) }
  if x.passedTo lowest < n then
    { y with nextIndex := n, cache := x.cache.drop (n - x.cacheBase), cacheBase := max x.cacheBase n }
  else y

/-- One channel loses what is presented from `lowest` to below `bound`, counted in counter `k` and, where it `reports`,
with AUDIO_LATE for its carriages; then it settles (R123, R124, R126). -/
def State.channelLoss (s : State) (a : Aud) (k : Fin 16) (reports : Bool) (lowest bound : Nat) (c : Chan) : State :=
  let x := s.stream a c
  let u := s.setStream a c (x.afterLoss reports lowest bound)
  let u := u.setAud a { u.aud a with
    counters := (u.aud a).counters.set k ((u.aud a).counters[k] + BitVec.ofNat 32 (x.lostIn lowest bound)) }
  let late := if reports then x.reportedIn lowest bound else []
  (late.foldl (fun u y => u.report (Party.slot a) .minor .audioLate none (some y.ordinal)) u).settleStream a c
    settleRounds

/-- A stream context without a packet that the lane has placed, its carriage quiet no more, before it settles (R123). -/
def Stream.afterSending (x : Stream) (p : PacketEntry) : Stream :=
  { x with
    queue := x.queue.filter (fun q => !decide (q.ordinal = p.ordinal ∧ q.index = p.index))
    cues := x.cues.map (fun z => { z with quiet := z.quiet && decide (z.ordinal ≠ p.ordinal) }) }

/-- One packet placed by the lane: it counts as sent, and its channel settles (R123, R124). -/
def State.channelSends (s : State) (a : Aud) (y : Chan × PacketEntry) : State :=
  let u := s.setStream a y.1 ((s.stream a y.1).afterSending y.2)
  (u.setAud a { u.aud a with
    counters := (u.aud a).counters.set (8 : Fin 16) ((u.aud a).counters[(8 : Fin 16)] + 1) }).settleStream a y.1
    settleRounds

/-- The leaves that the channels acted on hand as they settle one after another, where channel c stands at `after c`
before it settles (R124): one for each complete carriage of an entry that no other channel carries by then. -/
def State.leavesSettling (s : State) (a : Aud) (acts : Chan → Bool) (after : Chan → Stream) : List LeaveEvent :=
  (List.finRange 4).flatMap (fun c => if acts c then
    ((after c).completed.filter (fun y => (List.finRange 4).all (fun (d : Chan) => decide (d = c)
      || (if acts d && decide (d < c) then (after d).cues.filter (fun z => !(after d).isComplete z)
          else (s.stream a d).cues).all (fun z => decide (z.ordinal ≠ y.ordinal))))).map (fun y =>
            ⟨y.entry, y.ordinal⟩)
    else [])

/-- An incident record's 32 bytes at an offset of a mirror half (R190). -/
def IncidentLaid (h : List Byte) (offset : Nat) (r : IncidentRecord) : Prop :=
  leNat h offset 1 = (if r.valid then 1 else 0) + (if r.overflow then 2 else 0) + (if r.addressValid then 4 else 0)
      + (if r.ordinalValid then 8 else 0) + (if r.severity = .major then 16 else 0)
    ∧ leNat h (offset + 1) 1 = (match r.code with
        | .clear => 0
        | .configClamped => 1
        | .configBad => 2
        | .segmentBad => 3
        | .cueBad => 4
        | .cueOrder => 5
        | .fetchFault => 6
        | .textLate => 7
        | .cueMissed => 8
        | .audioLate => 9
        | .audioFault => 10
        | .retiredSeek => 11
        | .uplinkOverflow => 12
        | .deviceTableFull => 13)
    ∧ leNat h (offset + 2) 2 = r.sequence.toNat ∧ leNat h (offset + 4) 2 = r.minorCount % 65536
    ∧ leNat h (offset + 6) 2 = 0 ∧ leNat h (offset + 8) 8 = r.address.toNat
    ∧ leNat h (offset + 16) 4 = r.ordinal % 4294967296 ∧ leNat h (offset + 20) 4 = r.position % 4294967296
    ∧ leNat h (offset + 24) 8 = 0

/-! ### The Device Table's messages -/

/-- The state once the Device Table has taken the oldest message of a lane (R148, R155). -/
def State.messageTaken (s : State) (a : Aud) : State :=
  { s.setAud a { s.aud a with lane := { (s.aud a).lane with intake := (s.aud a).lane.intake.drop 1 } } with
    devices := { s.devices with intakePointer := a } }

/-- A lane's replies, and "replies discarded", after a reply event of a lane that is not OFF (R144). -/
def ReplyHanded (x y : Auditorium) (r : Reply) : Prop :=
  if x.lane.replies.length < 8 then y.lane.replies = x.lane.replies ++ [r] ∧ y.counters = x.counters
  else y.lane.replies = x.lane.replies
    ∧ y.counters = x.counters.set (15 : Fin 16) (x.counters[(15 : Fin 16)] + 1)

/-- An accepted JOIN from `s` to `t` (R157, R158, R159): entry `i` is the device's, ACTIVE on the channel with
silence 0, no other entry changes, the lane is FULL with all four rows of the channel to repeat, the reply is handed,
and beside the audience counts nothing else changes. -/
def JoinAccepted (s t : State) (a : Aud) (c : Chan) (m : UplinkMessage) (i : Fin 1024) : Prop :=
  t.devices = { s.devices with
      entries := s.devices.entries.set i (some ⟨m.device, a, c, 0, .active⟩), audience := t.devices.audience }
    ∧ (t.aud a).lane = { (s.aud a).lane with
        state := .full, zeroAudience := 0, replies := (t.aud a).lane.replies
        forced := (s.aud a).lane.forced.set c (Vector.replicate 4 true) }
    ∧ ReplyHanded (s.aud a) (t.aud a) ⟨m.device, .accepted, m.channelArg⟩
    ∧ t = { s.setAud a { s.aud a with lane := (t.aud a).lane, counters := (t.aud a).counters } with
        devices := t.devices }

/-- Whether a device's entry is entry `i` (R151). -/
def EntryOf (s : State) (id : BitVec 32) (i : Fin 1024) (d : Device) : Prop :=
  s.devices.entries[i] = some d ∧ d.id = id

/-- Whether a JOIN's channel is open in its auditorium: an argument of 0..3 and a kind other than OFF (R156). -/
def ChannelOpen (s : State) (a : Aud) (m : UplinkMessage) (c : Chan) : Prop :=
  m.channelArg.toNat = c.val ∧ (s.aud a).release.channels[c].kind ≠ .off

end Machine

end Sys2Proof
end

