-- ==== Sys2Proof/Certificates/Slice0/Obligations.lean ====
section
/-! DEFINITION. The statements about the part, for the provers: what each command does, by the numbered rules, and
what every step keeps. -/

open Sys2Proof Sys2Proof.Machine

/-! ### The step and the registers -/

/-- A step takes the command at the front of the queue and runs it on the rest (the model's queue); with no command
waiting the part idles for one local tick (the model's choice, log 1). -/
def Obligations.StepTakesFront : Prop :=
  (∀ (c : Instr) (rest : List Instr) (s : State),
    s.pending = c :: rest → step s = exec c { s with pending := rest })
    ∧ ∀ s : State, s.pending = [] → step s = .next s.idleTick

/-- An idle step (the model's choice, logs 1, 28 and 38) is one local tick of the timers that no row ticks: read timers
move on by a tick's 5 units and end their reads at 12, which is 2 ms (R82); scan timers count to 120 local ticks and
mirror timers to 300, start again at 0 there, and leave the party with a directory read (R181, R182) or a mirror write
asked for (R184). An expired read ends as READ_TIMEOUT ends it, and where nothing expires nothing but the timers moves.
The trackers, lines, lanes and devices are not ticked. -/
def Obligations.IdleStepRunsTheTimers : Prop :=
  ∀ s : State, s.pending = [] → (s.fetch.inFlight.map Flight.tag).Nodup → ∃ t, step s = .next t
    ∧ t.pending = [] ∧ t.regs = s.regs ∧ t.devices = s.devices
    ∧ (∀ a : Aud, (t.aud a).tracker = (s.aud a).tracker ∧ (t.aud a).line = (s.aud a).line
        ∧ (t.aud a).lane = (s.aud a).lane ∧ (t.aud a).state = (s.aud a).state)
    ∧ t.fetch.inFlight = (s.fetch.inFlight.map (fun x => { x with timer := x.timer + 5 })).filter (fun x =>
        decide (x.timer < 12))
    ∧ (∀ p : Party,
        (t.party p).scanTimer = (s.party p).scanTimer.map (fun n => if 120 ≤ n + 1 then 0 else n + 1)
        ∧ (t.party p).mirrorTimer = (s.party p).mirrorTimer.map (fun n => if 300 ≤ n + 1 then 0 else n + 1)
        ∧ (∀ n, (s.party p).scanTimer = some n → 120 ≤ n + 1 → (t.party p).directoryRead ≠ .none)
        ∧ (∀ n, (s.party p).mirrorTimer = some n → 300 ≤ n + 1 → (t.party p).mirrorWrite ≠ .none))
    ∧ ((∀ p : Party, (∀ n, (s.party p).scanTimer = some n → n + 1 < 120)
          ∧ (∀ n, (s.party p).mirrorTimer = some n → n + 1 < 300)) →
        ((∀ x ∈ s.fetch.inFlight, x.timer + 5 < 12) →
          (∀ p : Party, t.party p = { s.party p with
            scanTimer := (t.party p).scanTimer, mirrorTimer := (t.party p).mirrorTimer })
          ∧ t = { s with
              fetch := { s.fetch with inFlight := t.fetch.inFlight }
              exchange := { s.exchange with parties := t.exchange.parties } })
        ∧ ∀ x ∈ s.fetch.inFlight, 12 ≤ x.timer + 5 →
          (∀ y ∈ s.fetch.inFlight, y ≠ x → y.timer + 5 < 12) → ∃ u, exec (.readTimeout x.tag) s = .next u
            ∧ t.auds = u.auds ∧ t.pool = u.pool ∧ t.incidents = u.incidents ∧ t.fetch.queue = u.fetch.queue
            ∧ t.exchange.offers = u.exchange.offers)

/-- A command whose event is not there changes nothing (the model's choice, logs 1 and 2): an order, a hand-over, a
ready event, a leave, a departure, a drained event, a framed word or a message that does not wait, a timer that does
not expire, and a retry round that is not owed. -/
def Obligations.AbsentEventsChangeNothing : Prop :=
  ∀ (a : Aud) (s : State),
    let x := s.aud a
    (x.line.framed = [] → exec (.timecodeWordArrival a) s = .next s)
      ∧ ((x.tracker.lossDue = false ∨ x.tracker.saturates = true) → exec (.lossExpiry a) s = .next s)
      ∧ ((x.tracker.holdDue = false ∨ x.tracker.saturates = true) → exec (.holdExpiry a) s = .next s)
      ∧ (x.window.orders = [] → exec (.windowSeekOrder a) s = .next s)
      ∧ (x.window.readyEvent = false → exec (.tableReady a) s = .next s)
      ∧ (x.window.leaves = [] → exec (.windowLeave a) s = .next s)
      ∧ ((∀ target gen rest, x.release.orders ≠ .seek target gen :: rest) →
        exec (.releaseSeekOrder a) s = .next s)
      ∧ ((∀ rest, x.release.orders ≠ .hold :: rest) → exec (.releaseHoldOrder a) s = .next s)
      ∧ ((∀ oldP newP rest, x.release.orders ≠ .catchUp oldP newP :: rest) →
        exec (.releaseCatchUpOrder a) s = .next s)
      ∧ (x.release.handOvers = [] → exec (.releaseSeekHandOver a) s = .next s)
      ∧ (x.release.readies = [] → exec (.releaseReadyCheck a) s = .next s)
      ∧ ((∀ target gen rest, x.streamer.orders ≠ .seek target gen :: rest) →
        exec (.streamSeekOrder a) s = .next s)
      ∧ ((∀ rest, x.streamer.orders ≠ .hold :: rest) → exec (.streamHoldOrder a) s = .next s)
      ∧ ((∀ oldP newP rest, x.streamer.orders ≠ .catchUp oldP newP :: rest) →
        exec (.streamCatchUpOrder a) s = .next s)
      ∧ (x.streamer.handOvers = [] → exec (.streamSeekHandOver a) s = .next s)
      ∧ (x.streamer.readies = [] → exec (.streamReadyOpen a) s = .next s)
      ∧ (x.window.departures = [] → exec (.offerAfterDeparture (.window a)) s = .next s)
      ∧ (x.programme.departures = [] → exec (.offerAfterDeparture (.programme a)) s = .next s)
      ∧ (x.streamer.departures = [] → exec (.offerAfterDeparture (.streamer a)) s = .next s)
      ∧ (s.exchange.departures = [] → exec (.offerAfterDeparture .exchange) s = .next s)
      ∧ (s.fetch.drained[a] = false → exec (.drained a) s = .next s)
      ∧ (s.pool.roundsOwed = 0 → exec .poolRetryRound s = .next s)
      ∧ (∀ p : Party, (s.party p).scanTimer = none → exec (.scanTimerExpiry p) s = .next s)
      ∧ (∀ p : Party, (s.party p).mirrorTimer = none → exec (.mirrorTimerExpiry p) s = .next s)
      ∧ ((∀ b m, s.nextMessage = some (b, m) → m.kind ≠ .join) → exec .join s = .next s)
      ∧ ((∀ b m, s.nextMessage = some (b, m) → m.kind ≠ .alive) → exec .alive s = .next s)
      ∧ ((∀ b m, s.nextMessage = some (b, m) → m.kind ≠ .repeatRows) → exec .repeatRows s = .next s)
      ∧ ((∀ b m, s.nextMessage = some (b, m) → m.kind ≠ .leave) → exec .leave s = .next s)

/-- Power-on, enable and disable. POWER_ON leaves the whole part, from every state, as R188 says, field by field, every
page row blank. The commands that wait stay (the model's choice, log 30); the line receiver is empty (log 3), the blank
language code three zero bytes (log 4) and the cells of the pool zeros (log 5). A KCTL write that takes ENABLE from 0
to 1 starts every scan timer at 119 - 7p and changes nothing else (R181); one that leaves ENABLE unchanged has no
effect (R186). One that takes ENABLE from 1 to 0 disables the part (R187): every auditorium is OFF with its blocks at
their values for disable, everything queued and in flight is forgotten, the run epoch moves, KNOTE is 0, no mirror is
written, and KXBASE and KNOTEMASK stand. The line receivers go on through it (the model's choice, log 3). -/
def Obligations.PartStartsAndStops : Prop :=
  (∀ s : State, ∃ t, exec .powerOn s = .next t
    ∧ t = { State.reset with pending := s.pending }
    ∧ t.readRegister 0x00 = some 0x5C160401#32 ∧ t.readRegister 0x04 = some 0
    ∧ t.readRegister 0x08 = some 0 ∧ t.readRegister 0x0C = some 0 ∧ t.readRegister 0x10 = some 0
    ∧ t.readRegister 0x14 = some 0 ∧ t.readRegister 0x18 = some 0
    ∧ t.interrupt = false
    ∧ (∀ a : Aud, (t.aud a).state = .off ∧ (t.aud a).pendingRequest = none
        ∧ (t.aud a).line = ⟨[], []⟩
        ∧ (t.aud a).tracker = {
            state := .idle, est := ⟨0, 0⟩, trim := 0, agree := 1, lastTc := none, repeats := 0, lossSpan := 150
            lossTimer := none, holdTimer := none, seekGen := 0, tcOffset := 0, freewheelLimit := 2400
            catchUpLimit := 240 }
        ∧ (t.aud a).programme = {
            tableState := .empty, reference := 0, segmentCount := 0, editRate := 0, table := [], loadCursor := 0
            batch := .none, retireMark := 0, keepBack := 72000, orderFloor := none, readyHanded := false
            departures := [] }
        ∧ (∀ e : EntryIx, (t.aud a).window.entry e = .free)
        ∧ (t.aud a).window = { (t.aud a).window with
            state := .stopped, cursor := none, rePlacing := false, resumeBound := none, search := none, offers := []
            poolWait := [], readyTaken := false, readyEvent := false, orders := [], leaves := [], departures := [] }
        ∧ (∀ (c : Chan) (r : RowIx), (t.aud a).lane.forced[c][r] = false)
        ∧ (t.aud a).lane = { (t.aud a).lane with
            state := .off, frameNumber := 65535, held := none, onAir := none, zeroAudience := 0, dirty := []
            replies := [], refresh := 0, intake := [], overflow := false }
        ∧ (∀ k : Fin 16, (t.aud a).counters[k] = 0)
        ∧ t.fetch.attachGen[a] = 0 ∧ t.fetch.programmeReads[a] = 0 ∧ t.fetch.drained[a] = false)
    ∧ (∀ (a : Aud) (c : Chan),
        (t.aud a).release.channels[c] = {
            kind := .off, track := 0, classMatch := 0, classCare := 0, glyphMode := .g256, fgEnable := false
            bgEnable := false, flashEnable := false, fgValue := 0, bgValue := 0, flashValue := false, language := 0 }
        ∧ (∀ r : RowIx, t.row a c r = ⟨Row.blankCells, none, 0⟩)
        ∧ t.stream a c = {
            cues := [], fetch := none, nextIndex := 0, cacheBase := 0, cache := [], batchOut := false, queue := [] }
        ∧ t.audience a c = 0)
    ∧ (∀ a : Aud,
        (t.aud a).release = { (t.aud a).release with
            releasePoint := 0, takenGen := 0, windowGen := 0, leaving := [], orders := [], handOvers := []
            readies := [] }
        ∧ (t.aud a).streamer = { (t.aud a).streamer with
            bufferCount := 0, offers := [], takenGen := 0, windowGen := 0, orders := [], handOvers := []
            readies := [], departures := [] }
        ∧ t.pool.reserveHeld[a] = 0 ∧ t.pool.sharedHeld[a] = 0)
    ∧ (∀ p : Party,
        t.party p = {
            takenGen := none, scanTimer := none, directoryRead := .none, callPending := false, stamp := 0
            mirrorWrite := .none, mirrorTimer := none, noticesOwed := false }
        ∧ (t.incident p).valid = false ∧ (t.incident p).overflow = false ∧ (t.incident p).sequence = 0
        ∧ (t.incident p).minorCount = 0 ∧ (t.incident p).countChanged = false ∧ t.fetch.queuedCount[p] = 0)
    ∧ t.exchange.offers = [] ∧ t.exchange.departures = []
    ∧ t.fetch.queue = [] ∧ t.fetch.inFlight = [] ∧ t.fetch.runEpoch = 0 ∧ t.fetch.lastWrite = none
    ∧ (∀ b : BlockIx, t.pool.blocks[b].holder = none) ∧ t.pool.retryPointer = 15 ∧ t.pool.roundsOwed = 0
    ∧ (∀ i : Fin 1024, t.devices.entries[i] = none)
    ∧ t.devices.quietThreshold = 10 ∧ t.devices.releaseThreshold = 120 ∧ t.devices.intakePointer = 15)
    ∧ (∀ (v : Word) (s : State),
      (v.getLsbD 0 = s.regs.enable → exec (.enable v) s = .next s ∧ exec (.disable v) s = .next s)
        ∧ (s.regs.enable = false → v.getLsbD 0 = true →
          ∃ t, exec (.enable v) s = .next t
            ∧ t.regs = { s.regs with enable := true }
            ∧ (∀ p : Party, t.party p = { s.party p with scanTimer := some (119 - 7 * p.val) })
            ∧ t = { s with regs := t.regs, exchange := { s.exchange with parties := t.exchange.parties } }))
    ∧ (∀ (v : Word) (s : State), s.regs.enable = true → v.getLsbD 0 = false →
      ∃ t, exec (.disable v) s = .next t
        ∧ t.regs = { s.regs with enable := false, knote := 0 } ∧ t.interrupt = false
        ∧ (∀ a : Aud, t.aud a = { Auditorium.reset with line := (s.aud a).line })
        ∧ t.fetch.queue = [] ∧ t.fetch.inFlight = [] ∧ t.fetch.runEpoch = s.fetch.runEpoch + 1
        ∧ (∀ p : Party, t.fetch.queuedCount[p] = 0)
        ∧ (∀ a : Aud, t.fetch.programmeReads[a] = 0 ∧ t.fetch.attachGen[a] = 0 ∧ t.fetch.drained[a] = false)
        ∧ t.fetch.lastWrite = s.fetch.lastWrite
        ∧ (∀ b : BlockIx, t.pool.blocks[b] = { s.pool.blocks[b] with holder := none })
        ∧ (∀ a : Aud, t.pool.reserveHeld[a] = 0 ∧ t.pool.sharedHeld[a] = 0) ∧ t.pool.retryPointer = 15
        ∧ t.devices = DeviceTable.reset
        ∧ (∀ p : Party, t.party p = ExchangeContext.reset ∧ t.incident p = IncidentRecord.reset)
        ∧ t.exchange.offers = [] ∧ t.pending = s.pending)

/-- The other registers (R185, R186). A write to KNOTE clears each bit written as 1 and leaves the others, one to
KNOTEMASK stores seventeen bits, KIDENT ignores a write, and KXBASE is stored by halves only while ENABLE is 0, its low
14 bits reading as 0; none of them changes anything else. The locations read so, and the interrupt line is high exactly
while KNOTE and KNOTEMASK have a set bit in common. -/
def Obligations.RegistersAndInterruptLine : Prop :=
  (∀ (v : Word) (s : State), ∃ t u,
    exec (.knoteClear v) s = .next t ∧ exec (.knotemaskWrite v) s = .next u
      ∧ (∀ p : Party, t.regs.knote.getLsbD p.val = (s.regs.knote.getLsbD p.val && !v.getLsbD p.val))
      ∧ t = { s with regs := { s.regs with knote := t.regs.knote } }
      ∧ (∀ p : Party, u.regs.knotemask.getLsbD p.val = v.getLsbD p.val)
      ∧ u = { s with regs := { s.regs with knotemask := u.regs.knotemask } })
    ∧ (∀ (v : Word) (s : State),
      exec (.registerWrite .kident v) s = .next s
        ∧ (s.regs.enable = true →
          exec (.registerWrite .kxbaseLow v) s = .next s ∧ exec (.registerWrite .kxbaseHigh v) s = .next s)
        ∧ (s.regs.enable = false → s.regs.kxbase &&& 0x3FFF#64 = 0 → ∃ t u,
          exec (.registerWrite .kxbaseLow v) s = .next t ∧ exec (.registerWrite .kxbaseHigh v) s = .next u
            ∧ t.readRegister 0x08 = some (v &&& ~~~0x3FFF#32) ∧ t.readRegister 0x0C = s.readRegister 0x0C
            ∧ u.readRegister 0x0C = some v ∧ u.readRegister 0x08 = s.readRegister 0x08
            ∧ t = { s with regs := { s.regs with kxbase := t.regs.kxbase } }
            ∧ u = { s with regs := { s.regs with kxbase := u.regs.kxbase } }))
    ∧ ∀ s : State,
      s.readRegister 0x00 = some 0x5C160401#32
        ∧ s.readRegister 0x04 = some (if s.regs.enable then 1 else 0)
        ∧ s.readRegister 0x10 = some 0
        ∧ s.readRegister 0x14 = some (s.regs.knote.setWidth 32)
        ∧ s.readRegister 0x18 = some (s.regs.knotemask.setWidth 32)
        ∧ (s.interrupt = true ↔
          ∃ p : Party, s.regs.knote.getLsbD p.val = true ∧ s.regs.knotemask.getLsbD p.val = true)

/-- Calls, the exchange timers and notice reasons (R182, R183, R184, R185). A notice reason raised for a party sets
notices owed; a party with a mirror write already WAITING or QUEUED asks for none, and otherwise one MIRROR_WRITE of
class 3 enters the queue, or waits on the offer list where it is refused; nothing else changes. A write to KCALL is
ignored above 16 and while ENABLE is 0; a party whose directory read is NONE is scanned at once; any other has its call
pending set. A running scan timer's expiry starts it again and makes a scan read where the directory read is NONE; a
running mirror timer's expiry restarts it at 0 and, where the party has no write, asks for one in the same way, QUEUED
where it enters the queue and WAITING where it is refused. The expiry is taken whatever the timer's count (the model's
choice, log 1). -/
def Obligations.CallsTimersAndNotices : Prop :=
  (∀ (s : State) (p : Party),
      let t := s.raiseReason p
      ((s.party p).mirrorWrite ≠ .none →
        t = { s with exchange := { s.exchange with
          parties := s.exchange.parties.set p { s.party p with noticesOwed := true } } })
        ∧ ((s.party p).mirrorWrite = .none → s.offerResult p = .entered →
          t = { s with
            fetch := s.fetch.withEntered (s.halfWrite p) 3
            exchange := { s.exchange with
              parties := s.exchange.parties.set p
                { s.party p with noticesOwed := true, mirrorWrite := .queued } } })
        ∧ ((s.party p).mirrorWrite = .none → s.offerResult p ≠ .entered →
          t = { s with exchange := { s.exchange with
              parties := s.exchange.parties.set p
                { s.party p with noticesOwed := true, mirrorWrite := .waiting }
              offers := s.exchange.offers ++ [s.halfWrite p] } }))
    ∧ (∀ (v : Word) (s : State),
    ((16 < v.toNat ∨ s.regs.enable = false) → exec (.kcall v) s = .next s)
      ∧ ∀ p : Party, v.toNat = p.val → s.regs.enable = true →
        ((s.party p).directoryRead = .none → ∃ t, exec (.kcall v) s = .next t ∧ ScanReadMade p s t)
          ∧ ((s.party p).directoryRead ≠ .none →
            exec (.kcall v) s = .next { s with exchange := { s.exchange with
              parties := s.exchange.parties.set p { s.party p with callPending := true } } }))
    ∧ ∀ (p : Party) (s : State),
      (∀ n, (s.party p).scanTimer = some n → ∃ t, exec (.scanTimerExpiry p) s = .next t
        ∧ (if (s.party p).directoryRead = .none then
            ScanReadMade p (s.updParty p (fun x => { x with scanTimer := some 0 })) t
          else t = s.updParty p (fun x => { x with scanTimer := some 0 })))
      ∧ (∀ n, (s.party p).mirrorTimer = some n → ∃ t, exec (.mirrorTimerExpiry p) s = .next t
        ∧ ((s.party p).mirrorWrite ≠ .none →
            t = s.updParty p (fun x => { x with mirrorTimer := some 0 }))
        ∧ ((s.party p).mirrorWrite = .none → s.offerResult p = .entered →
            t = { s.updParty p (fun x => { x with mirrorTimer := some 0, mirrorWrite := .queued }) with
              fetch := s.fetch.withEntered (s.halfWrite p) 3 })
        ∧ ((s.party p).mirrorWrite = .none → s.offerResult p ≠ .entered →
            t = { s with exchange := { s.exchange with
              parties := s.exchange.parties.set p
                { s.party p with mirrorTimer := some 0, mirrorWrite := .waiting }
              offers := s.exchange.offers ++ [s.halfWrite p] } }))

/-! ### Position Tracker -/

/-- Timecode from the line to the tracker (R5 to R8, R27, R28). The line receiver: a byte outside a word starts one
only if it is the sync byte; the byte after seven completes a word, which waits for the tracker; nothing else changes.
The oldest framed word delivered: outside SHOW it changes nothing else; in SHOW a word that fails a test of R7 is
counted in "timecode words discarded" and changes nothing else; on any other the tracker context acts with the
converted position, its order is handed to its recipients, "slips" and "seeks" follow, a changed tracker state is
reported once, and nothing else changes. The conversion: frames of the day by the word's own rate, times its ticks per
frame, plus the timecode offset, brought into 0..103,679,999; and the loss span that an arrival sets. -/
def Obligations.TimecodeReachesTracker : Prop :=
  (∀ (a : Aud) (b : Byte) (s : State), ∃ t, exec (.timecodeLineByte a b) s = .next t
      ∧ t = s.setAud a { s.aud a with line := (t.aud a).line }
      ∧ ((s.aud a).line.partialWord = [] → b ≠ 0xA5#8 → (t.aud a).line = (s.aud a).line)
      ∧ ((s.aud a).line.partialWord = [] → b = 0xA5#8 →
          (t.aud a).line = { (s.aud a).line with partialWord := [b] })
      ∧ ((s.aud a).line.partialWord ≠ [] → (s.aud a).line.partialWord.length ≠ 7 →
          (t.aud a).line = { (s.aud a).line with partialWord := (s.aud a).line.partialWord ++ [b] })
      ∧ ((s.aud a).line.partialWord.length = 7 → ∃ w : Vector Byte 8,
          w.toList = (s.aud a).line.partialWord ++ [b]
            ∧ (t.aud a).line = ⟨[], (s.aud a).line.framed ++ [w]⟩))
    ∧ (∀ (a : Aud) (s : State) (w : Vector Byte 8) (rest : List (Vector Byte 8)),
      (s.aud a).line.framed = w :: rest →
      let x := { s.aud a with line := { (s.aud a).line with framed := rest } }
      let discarded := w[7] ≠ w[0] + w[1] + w[2] + w[3] + w[4] + w[5] + w[6]
        ∨ 6 ≤ w[1].toNat % 8 ∨ 24 ≤ w[2].toNat ∨ 60 ≤ w[3].toNat ∨ 60 ≤ w[4].toNat
        ∨ fps (w[1].toNat % 8) ≤ w[5].toNat
      ((s.aud a).state ≠ .show → exec (.timecodeWordArrival a) s = .next (s.setAud a x))
        ∧ ((s.aud a).state = .show → discarded →
          exec (.timecodeWordArrival a) s = .next (s.setAud a { x with
            counters := (s.aud a).counters.set (0 : Fin 16) ((s.aud a).counters[(0 : Fin 16)] + 1) }))
        ∧ ((s.aud a).state = .show → ¬discarded →
          exec (.timecodeWordArrival a) s = .next (s.afterTracker a x
            ((s.aud a).tracker.arrive
              (timecodePosition (readTimecode w) (s.aud a).tracker.tcOffset)
              (tpf (w[1].toNat % 8))))))
    ∧ (∀ (t : Tracker) (position frame : Nat), (t.arrive position frame).tracker.lossSpan = 3 * frame)
    ∧ ∀ (w : Vector Byte 8) (offset : Int), timecodeValid w = true →
    let rate := w[1].toNat % 8
    let frames := ((w[2].toNat * 60 + w[3].toNat) * 60 + w[4].toNat) * fps rate + w[5].toNat
    let sum : Int := (frames * tpf rate : Nat) + offset
    rate ≤ 5
      ∧ (timecodePosition (readTimecode w) offset : Int)
        = (if sum < 0 then 0 else if 103679999 < sum then 103679999 else sum)
      ∧ (-600 ≤ offset → offset ≤ 0 → sum ≤ 103680000 - (tpf rate : Int))

/-- A valid arrival by tracker state (R8, R12 to R21). In IDLE or HELD it enters ACQUIRE; in ACQUIRE an advance of one
frame or a still word raises agree, any other makes it 1, and the third agreement places est, gives LOCKED or PAUSED,
raises the seek generation, counts a seek and orders it. In LOCKED, FREEWHEEL and, for a word that differs from
last_tc, PAUSED, the first of repeat, slew, catch-up and seek that applies acts, with the common effects; a repeated
word in PAUSED holds the pause. -/
def Obligations.ArrivalsByTrackerState : Prop :=
  (∀ (t : Tracker) (position frame : Nat),
      (t.state = .idle ∨ t.state = .held →
        t.arrive position frame = ⟨{ t with
          lossSpan := 3 * frame, state := .acquire, agree := 1, lastTc := some position, repeats := 0
          lossTimer := some 0, holdTimer := none }, none, 0, 0⟩)
        ∧ ∀ last, t.state = .acquire → t.lastTc = some last →
          let agree := if position = last + frame ∨ position = last then t.agree + 1 else 1
          let u := { t with
            lossSpan := 3 * frame, agree := agree, lastTc := some position, lossTimer := some 0 }
          (agree < 3 → t.arrive position frame = ⟨u, none, 0, 0⟩)
            ∧ (3 ≤ agree → position = last + frame →
              t.arrive position frame = ⟨{ u with
                state := .locked, repeats := 0, est := ⟨position, 0⟩, seekGen := t.seekGen + 1 },
                some (.seek position (t.seekGen + 1)), 0, 1⟩)
            ∧ (3 ≤ agree → position ≠ last + frame →
              t.arrive position frame = ⟨{ u with
                state := .paused, repeats := 2, est := ⟨position, 0⟩, seekGen := t.seekGen + 1 },
                some (.seek position (t.seekGen + 1)), 0, 1⟩))
    ∧ ∀ (t : Tracker) (position frame : Nat),
    let e : Int := (position : Int) - (t.est.rounded : Int)
    let u := { t with lossSpan := 3 * frame, state := .locked, lossTimer := some 0, holdTimer := none }
    let v := { u with repeats := 0, lastTc := some position }
    ((t.state = .locked ∨ t.state = .freewheel) → t.lastTc = some position →
      t.arrive position frame =
        (if t.repeats = 0 then ⟨{ u with repeats := 1 }, none, 0, 0⟩
        else ⟨{ u with state := .paused, repeats := 2, est := ⟨position, 0⟩ }, none, 0, 0⟩))
      ∧ (t.state = .paused → t.lastTc = some position →
        t.arrive position frame =
          ⟨{ t with lossSpan := 3 * frame, lossTimer := some 0, holdTimer := none }, none, 0, 0⟩)
      ∧ ((t.state = .locked ∨ t.state = .freewheel ∨ t.state = .paused) → t.lastTc ≠ some position →
        t.arrive position frame =
          (if -6 ≤ e ∧ e ≤ 6 then
            ⟨{ v with
              est := Est.ofUnits ((t.est.units : Int) + e * 16384).toNat
              trim := if 2 ≤ e then min (t.trim + 1) 64 else if e ≤ -2 then max (t.trim - 1) (-64) else t.trim },
              none, 0, 0⟩
          else if 6 < e ∧ e ≤ (t.catchUpLimit : Int) then
            ⟨{ v with est := ⟨position, 0⟩ }, some (.catchUp t.est.ticks position), 1, 0⟩
          else
            ⟨{ v with est := ⟨position, 0⟩, seekGen := t.seekGen + 1 },
              some (.seek position (t.seekGen + 1)), 0, 1⟩))

/-- The local tick of a tracker and its expiries (R10, R11, R22 to R25). est gains 65536 + trim units in LOCKED and
FREEWHEEL and stands in the other states; an advance past the last position gives HELD at it with a hold order; timers
that do not expire count on; what the tick hands on goes to its recipients and nothing else changes. At the tick that
brings the loss timer to the loss span, ACQUIRE returns to IDLE, LOCKED enters FREEWHEEL and PAUSED starts the hold
timer, and with a freewheel limit of 0 both enter HELD; at the tick that brings the hold timer to the freewheel limit
the tracker enters HELD with a hold order. LOSS_EXPIRY and HOLD_EXPIRY are the whole local tick (the model's choice,
log 2). -/
def Obligations.LocalTickAndExpiries : Prop :=
  ((∀ (a : Aud) (s : State),
      exec (.trackerLocalTick a) s = .next (s.afterTracker a (s.aud a) (s.aud a).tracker.localTick))
      ∧ ∀ t : Tracker,
        let runs := t.state = .locked ∨ t.state = .freewheel
        let moved := Est.ofUnits ((t.est.units : Int) + (65536 + t.trim)).toNat
        (¬runs → t.localTick.tracker.est = t.est)
          ∧ (runs → moved.ticks ≤ 103679999 → t.localTick.tracker.est = moved)
          ∧ (runs → 103679999 < moved.ticks →
            t.localTick = ⟨{ t with
              state := .held, est := ⟨103679999, 0⟩, lossTimer := none, holdTimer := none, repeats := 0 },
              some .hold, 0, 0⟩)
          ∧ (t.saturates = false → t.lossDue = false → t.holdDue = false →
            t.localTick = ⟨{ t with
              est := t.localTick.tracker.est, lossTimer := t.lossTimer.map (· + 1)
              holdTimer := t.holdTimer.map (· + 1) }, none, 0, 0⟩))
    ∧ ∀ (a : Aud) (s : State),
    let t := (s.aud a).tracker
    let est := t.localTick.tracker.est
    let held : TrackerEvent := ⟨{ t with
      est := est, state := .held, lossTimer := none, holdTimer := none, repeats := 0 }, some .hold, 0, 0⟩
    (t.lossDue = true → t.saturates = false →
        (t.state = .acquire → exec (.lossExpiry a) s = .next (s.afterTracker a (s.aud a)
          ⟨{ t with state := .idle, agree := 1, lastTc := none, lossTimer := none, holdTimer := none },
            none, 0, 0⟩))
          ∧ ((t.state = .locked ∨ t.state = .paused) → t.freewheelLimit = 0 →
            exec (.lossExpiry a) s = .next (s.afterTracker a (s.aud a) held))
          ∧ (t.state = .locked → t.freewheelLimit ≠ 0 →
            exec (.lossExpiry a) s = .next (s.afterTracker a (s.aud a)
              ⟨{ t with est := est, state := .freewheel, lossTimer := none, holdTimer := some 0 }, none, 0, 0⟩))
          ∧ (t.state = .paused → t.freewheelLimit ≠ 0 →
            exec (.lossExpiry a) s = .next (s.afterTracker a (s.aud a)
              ⟨{ t with lossTimer := none, holdTimer := some 0 }, none, 0, 0⟩)))
      ∧ (t.holdDue = true → t.lossDue = false → t.saturates = false →
        exec (.holdExpiry a) s = .next (s.afterTracker a (s.aud a) held))

/-! ### Programme Unit -/

/-- RETIREMENT (R45, R46): where every condition of R46 holds the mark moves by one and one notice reason is raised,
with nothing else changed; where one fails the command changes nothing (the model's choice, log 2). -/
def Obligations.RetirementMovesTheMark : Prop :=
  ∀ (a : Aud) (s : State),
    (MayRetire (s.aud a) →
      exec (.retirement a) s = .next ((s.setAud a { s.aud a with
        programme := { (s.aud a).programme with
          retireMark := (s.aud a).programme.retireMark + 1 } }).raiseReason (Party.slot a)))
      ∧ (¬MayRetire (s.aud a) → exec (.retirement a) s = .next s)

/-- Segment descriptors (R32 to R36). A descriptor is bad by exactly the four tests of R34; of a batch the good ones
before the first bad one join the table in order with their starts in ticks, and the bad one and those after it are not
taken. A SEGMENT_DESC read whose tags stand: its data is judged so and the load cursor follows the table; with a bad
one the table is ENDED and one MAJOR SEGMENT_BAD carries the bad descriptor's address; with the whole programme taken
it is COMPLETE; otherwise the next batch of up to 16 is asked for. A fault, whatever the timer's count (the model's
choice, logs 1 and 28), ends the table at the load cursor with one MAJOR FETCH_FAULT. The first time since the attach
that the table leaves LOADING the table ready event is handed. The addresses of the next batch and of the bad
descriptor wrap in 64 bits (deduced, log 6). -/
def Obligations.DescriptorsJudgedInOrder : Prop :=
  (∀ (d : SegmentDesc) (before : Option Segment),
    d.bad before = true ↔
      (d.count = 0 ∨ 4096 < d.count ∨ d.address = 0 ∨ d.address.toNat % 32 ≠ 0 ∨ d.lastStart < d.firstStart
        ∨ ∃ b, before = some b ∧ d.firstStart < b.lastStart))
    ∧ (∀ (rate : Nat) (table : List Segment) (ds : List SegmentDesc), ∃ good rest,
      ds = good ++ rest
        ∧ (judgeDescs rate table ds).1 = table ++ good.map (fun d =>
            ⟨d.address, d.count, d.firstStart, d.lastStart, d.firstStart * tpf rate, d.lastStart * tpf rate⟩)
        ∧ ((judgeDescs rate table ds).2 = false ↔ rest = [])
        ∧ (∀ d more, rest = d :: more → d.bad (judgeDescs rate table ds).1.getLast? = true)
        ∧ ∀ i, (h : i < good.length) →
          (good[i]).bad ((table ++ (good.take i).map (fun d => d.segment rate)).getLast?) = false)
    ∧ ∀ (s : State) (tag : Nat) (x : Flight) (a : Aud),
      ReadStands s tag x a → x.request.requester = .programme →
      let p := (s.aud a).programme
      let leaves := fun (t : State) (st : TableState) =>
        (t.aud a).programme.tableState = st ∧ (t.aud a).programme.batch = .none
          ∧ (t.aud a).window.readyEvent = ((s.aud a).window.readyEvent || !p.readyHanded)
      let frame := fun (t : State) =>
        (t.aud a).tracker = (s.aud a).tracker ∧ (t.aud a).state = (s.aud a).state
          ∧ (t.aud a).release = (s.aud a).release ∧ (∀ b, b ≠ a → t.aud b = s.aud b)
          ∧ t.regs = s.regs ∧ t.pool = s.pool ∧ t.devices = s.devices ∧ t.pending = s.pending
      (∀ bytes, bytes.length = x.request.length →
        let judged := judgeDescs p.editRate p.table
          ((List.range (bytes.length / 32)).map (fun k => readSegmentDesc ((bytes.drop (32 * k)).take 32)))
        ∃ t, exec (.readCompletion tag (.data bytes)) s = .next t ∧ frame t
          ∧ (t.aud a).programme.table = judged.1 ∧ (t.aud a).programme.loadCursor = judged.1.length
          ∧ (judged.2 = true → leaves t .ended
            ∧ t.incidents = (s.report (Party.slot a) .major .segmentBad
                (some (p.reference + BitVec.ofNat 64 (32 * judged.1.length))) none).incidents)
          ∧ (judged.2 = false → t.incidents = s.incidents)
          ∧ (judged.2 = false → p.segmentCount ≤ judged.1.length → leaves t .complete)
          ∧ (judged.2 = false → judged.1.length < p.segmentCount →
            let r : Request := {
              party := Party.slot a, purpose := .segmentDesc, requester := .programme, ordinal := none
              attachTag := some s.fetch.attachGen[a], seekTag := none, epochTag := s.fetch.runEpoch
              address := p.reference + BitVec.ofNat 64 (32 * judged.1.length)
              length := 32 * min 16 (p.segmentCount - judged.1.length), terms := .fixed 1 }
            (t.aud a).programme.tableState = p.tableState
              ∧ (t.aud a).window = (s.aud a).window
              ∧ (if s.offerResult (Party.slot a) = .entered then
                  (t.aud a).programme.batch = .outstanding ∧ t.fetch.queue = s.fetch.queue ++ [⟨r, 1⟩]
                else (t.aud a).programme.batch = .waiting r ∧ t.fetch.queue = s.fetch.queue)))
        ∧ ∃ t, Faults tag s t ∧ frame t ∧ leaves t .ended
          ∧ (t.aud a).programme.table = p.table.take p.loadCursor
          ∧ (t.aud a).programme.loadCursor = p.loadCursor
          ∧ t.incidents = (s.report (Party.slot a) .major .fetchFault (some x.request.address) none).incidents

/-- A cue record judged (R40, R42, R43, R44): bad exactly by the tests of R42; out of order exactly where it starts
below the floor; and otherwise taken, with the fields its kind uses brought into range and each such change counted, so
that it lives no longer than 36,000 ticks and covers no row past row 3; the fields its kind does not use stand as
encoded. -/
def Obligations.RecordJudgedAndBroughtIntoRange : Prop :=
  ∀ (r : CueRecord) (rate : Nat) (floor : Option Nat) (ordinal : Nat),
    let start := r.start * tpf rate
    let bad := r.kind = none ∨ 103679999 < start
      ∨ (r.kind = some .text ∧ (r.reference = 0 ∨ r.reference.toNat % 2 ≠ 0))
      ∨ (r.kind = some .audio ∧ (r.reference = 0 ∨ r.reference.toNat % 8 ≠ 0 ∨ r.count = 0))
    (r.judge rate floor ordinal = .bad ↔ bad)
      ∧ (r.judge rate floor ordinal = .disordered ↔ ¬bad ∧ ∃ f, floor = some f ∧ start < f)
      ∧ ∀ c n, r.judge rate floor ordinal = .taken c n →
        c.ordinal = ordinal ∧ c.start = start ∧ c.start ≤ 103679999 ∧ some c.kind = r.kind
          ∧ c.trackMask = r.trackMask ∧ c.classFlags = r.classFlags ∧ c.firstRow = r.firstRow
          ∧ c.reference = r.reference
          ∧ c.start ≤ c.finish ∧ c.finish ≤ c.start + 36000 ∧ n ≤ 2
          ∧ (c.kind ≠ .audio → 1 ≤ c.lines ∧ c.firstRow.val + c.lines ≤ 4
              ∧ c.lines = min (max r.lines 1) (4 - r.firstRow.val) ∧ c.count = r.count)
          ∧ (c.kind = .audio → 1 ≤ c.count ∧ c.count = min r.count 1500 ∧ c.lines = r.lines)
          ∧ (c.kind = .clear → c.finish = c.start)
          ∧ (c.kind = .audio → c.finish = c.start + 24 * c.count)
          ∧ (c.kind = .text → c.finish = c.start + min (max r.duration 1 * tpf rate) 36000)
          ∧ (rate ≤ 5 → n = (match c.kind with
              | .text => (if r.duration = 0 ∨ 36000 < r.duration * tpf rate then 1 else 0)
                  + (if c.lines = r.lines then 0 else 1)
              | .clear => if c.lines = r.lines then 0 else 1
              | .audio => if r.count ≤ 1500 then 0 else 1))

/-! ### Cue Window -/

/-- REFILL (R55, R56, R57, R58): where its conditions hold, the lowest FREE entry goes to FETCHING with the ordinal at
the cursor, the cursor advances, and one 32-byte CUE_RECORD request is made, which enters the queue or joins the end
of the offer list. Where they do not hold the command changes nothing (the model's choice, log 2), and the record's
address wraps in 64 bits (the model's, log 6). The window's order lists each non-FREE entry once: the judged entries
by (start, ordinal), and behind them the FETCHING entries by ordinal. -/
def Obligations.RefillTakesTheCursor : Prop :=
  (∀ w : Window,
    w.order = w.judgedOrder ++ w.fetchOrder.map Prod.fst
      ∧ w.order.Nodup
      ∧ (∀ e : EntryIx, e ∈ w.order ↔ w.entry e ≠ .free)
      ∧ w.judgedOrder.Pairwise (fun x y => keyBefore (w.judgedKey y) (w.judgedKey x) = false)
      ∧ (∀ e : EntryIx, e ∈ w.judgedOrder ↔ ∃ stage c, w.entry e = .judged stage c)
      ∧ w.fetchOrder.Pairwise (fun x y => x.2 ≤ y.2)
      ∧ ∀ (e : EntryIx) (o : Nat), (e, o) ∈ w.fetchOrder ↔ ∃ address record, w.entry e = .fetching o address record)
    ∧ ∀ (a : Aud) (s : State),
    (∀ e sg i g, MayRefill (s.aud a) e sg i g →
      let w := (s.aud a).window
      let address := g.address + BitVec.ofNat 64 (32 * i)
      let r : Request := {
        party := Party.slot a, purpose := .cueRecord, requester := .windowEntry e
        ordinal := some (sg * 4096 + i), attachTag := some s.fetch.attachGen[a]
        seekTag := some (s.aud a).tracker.seekGen, epochTag := s.fetch.runEpoch
        address := address, length := 32, terms := .record }
      let near := match (s.aud a).programme.orderFloor with
        | none => true
        | some f => decide (f ≤ (s.aud a).tracker.est.ticks + 1200)
      let w' := { w with
        entries := w.entries.set e (.fetching (sg * 4096 + i) address none)
        cursor := some (if i + 1 = g.count then (sg + 1, 0) else (sg, i + 1)) }
      exec (.refill a) s = .next
        (if s.offerResult (Party.slot a) = .entered then
          { s.setAud a { s.aud a with window := w' } with
            fetch := s.fetch.withEntered r (if near then 2 else 3) }
        else s.setAud a { s.aud a with window := { w' with offers := w.offers ++ [r] } }))
      ∧ ((∀ e sg i g, ¬MayRefill (s.aud a) e sg i g) → exec (.refill a) s = .next s)

/-- CUE_RECORD reads whose tags stand (R41, R59, R60, R64, R71). A completion for an entry that is not FETCHING its
ordinal changes nothing beyond the engine's own counts; one for an entry whose record waits already takes that
record's place (the model's choice, log 45). A record behind the FETCHING entry of lowest ordinal whose record has not
come waits in its entry; the record of the lowest one is judged: bad or out of order it frees the entry with one MINOR
report, taken it raises the order floor, counts the fields brought into range, also where it is then passed (the
model's choice, log 36), and fills its entry or is passed by the window's tests. A fault, whatever the timer's count
(the model's choice, logs 1 and 28), frees the entry with one MAJOR FETCH_FAULT. After either the waiting records are
judged one after another in ordinal order: while the FETCHING entry of lowest ordinal has its record, that record is
judged as the ones before it have left the order floor and the window; then none is left that could be judged. A TEXT
cue that gets no blocks joins the wait list at its place in window order. The address of a table head that is asked
for wraps in 64 bits (deduced, log 6). -/
def Obligations.CueRecordReadsJudged : Prop :=
  (∀ (a : Aud) (s : State) (n : Nat),
    let lowest := fun (e : EntryIx) (o : Nat) (address : HostAddr) (r : CueRecord) =>
      (∃ o', (s.aud a).window.fetchOrder.head? = some (e, o'))
        ∧ (s.aud a).window.entry e = .fetching o address (some r)
    (∀ e o address r, lowest e o address r → RecordStep a e o address r s (s.judgeRecord a e o address r)
        ∧ s.judgeWaiting a (n + 1) = (s.judgeRecord a e o address r).judgeWaiting a n)
      ∧ ((∀ e o address r, ¬lowest e o address r) → s.judgeWaiting a n = s))
    ∧ ∀ (tag : Nat) (s : State) (x : Flight) (a : Aud) (e : EntryIx),
    ReadStands s tag x a → x.request.purpose = .cueRecord → x.request.requester = .windowEntry e →
    let w := (s.aud a).window
    let p := (s.aud a).programme
    ((∀ o address r, w.entry e = .fetching o address r → x.request.ordinal ≠ some o) → ∃ u, ReadGone s u x
        ∧ Faults tag s u
        ∧ ∀ bytes, bytes.length = x.request.length → exec (.readCompletion tag (.data bytes)) s = .next u)
      ∧ ∀ o address r, w.entry e = .fetching o address r → x.request.ordinal = some o → ∃ u, ReadGone s u x
        ∧ (∀ bytes, bytes.length = x.request.length → ∃ t, exec (.readCompletion tag (.data bytes)) s = .next t
          ∧ RecordsJudged (t.aud a).window
          ∧ (∀ e' o' address', w.fetchOrder.head? = some (e', o') → e' ≠ e →
            w.entry e' = .fetching o' address' none →
            t = u.setAud a { s.aud a with window := { w with
              entries := w.entries.set e (.fetching o address (some (readCueRecord bytes))) } })
          ∧ (w.fetchOrder.head? = some (e, o) → (∀ e' o' address' r', e' ≠ e →
              w.entry e' ≠ .fetching o' address' (some r')) →
            RecordStep a e o address (readCueRecord bytes) u t)
          ∧ t = (u.setAud a { s.aud a with window := { w with
              entries := w.entries.set e (.fetching o address (some (readCueRecord bytes))) } }).judgeWaiting a 64)
        ∧ ∃ t, Faults tag s t ∧ RecordsJudged (t.aud a).window
          ∧ (let v := u.report (Party.slot a) .major .fetchFault (some x.request.address) (some o)
            t = (v.setAud a { v.aud a with window := { w with
              entries := w.entries.set e .free
              poolWait := w.poolWait.filter (fun e' => decide (e' ≠ e))
              offers := w.offers.filter (fun r => decide (r.requester ≠ .windowEntry e)) } }).judgeWaiting a 64)
          ∧ ((∀ e' o' address' r', e' ≠ e → w.entry e' ≠ .fetching o' address' (some r')) →
            (t.aud a).window.entry e = .free
              ∧ (∀ e', e' ≠ e → (t.aud a).window.entry e' = w.entry e')
              ∧ (t.aud a).programme = p ∧ (t.aud a).counters = (s.aud a).counters ∧ t.pool = s.pool
              ∧ t.incidents = (s.report (Party.slot a) .major .fetchFault (some x.request.address)
                  (some o)).incidents)

/-- WINDOW_LEAVE (R53, R66, R87): the oldest leave frees its entry if the entry still holds the ordinal: the entry is
FREE, it and its requests leave the window's lists, its blocks are free and one retry round is owed where it held any;
otherwise only the leave is gone. A leave that waited across a seek frees its entry like any other, whatever its state
(the model's choice, log 41): behind one found FETCHING the records that waited are judged, and of one found ACTIVE the
rows its cue owns are blanked and its carriages stop with their packets, where it has any. -/
def Obligations.LeaveFreesItsEntry : Prop :=
  ∀ (a : Aud) (s : State),
    ∀ l rest, (s.aud a).window.leaves = l :: rest →
        (((s.aud a).window.entry l.entry).ordinal? ≠ some l.ordinal →
          exec (.windowLeave a) s = .next (s.setAud a { s.aud a with
            window := { (s.aud a).window with leaves := rest } }))
          ∧ (((s.aud a).window.entry l.entry).ordinal? = some l.ordinal → ∃ u : State,
            (u.aud a).window = { (s.aud a).window with
                  entries := (s.aud a).window.entries.set l.entry .free
                  leaves := rest
                  poolWait := (s.aud a).window.poolWait.filter (fun e => decide (e ≠ l.entry))
                  offers := (s.aud a).window.offers.filter (fun r =>
                    decide (r.requester ≠ .windowEntry l.entry)) }
              ∧ u = { s.setAud a { s.aud a with window := (u.aud a).window } with pool := u.pool }
              ∧ (∀ b : BlockIx, u.pool.blocks[b].holder =
                  (if b ∈ ((s.aud a).window.entry l.entry).blocks then none else s.pool.blocks[b].holder))
              ∧ (∀ b : BlockIx, u.pool.blocks[b].cells = s.pool.blocks[b].cells)
              ∧ u.pool.roundsOwed = s.pool.roundsOwed
                  + (if ((s.aud a).window.entry l.entry).blocks = [] then 0 else 1)
              ∧ ((∀ o address r, (s.aud a).window.entry l.entry ≠ .fetching o address r) →
                ((∀ d, (s.aud a).window.entry l.entry ≠ .judged .active d)
                  ∨ ((s.aud a).rowsOwnedBy l.ordinal = []
                    ∧ ∀ c : Chan, ∀ y ∈ (s.stream a c).cues, y.ordinal ≠ l.ordinal)) →
                exec (.windowLeave a) s = .next u)
              ∧ (∀ d, (s.aud a).window.entry l.entry = .judged .active d → ∃ t, exec (.windowLeave a) s = .next t
                ∧ (∀ (c : Chan) (r : RowIx), t.row a c r =
                    if (s.row a c r).owner.map RowOwner.ordinal = some l.ordinal then (s.row a c r).blanked
                    else s.row a c r)
                ∧ (t.aud a).lane = (s.aud a).lane.dirtied ((s.aud a).rowsOwnedBy l.ordinal)
                ∧ ((∀ c : Chan, ∀ y ∈ (s.stream a c).cues, y.ordinal ≠ l.ordinal) →
                    (t.aud a).streamer = (s.aud a).streamer)
                ∧ ((∃ c : Chan, ∃ y ∈ (s.stream a c).cues, y.ordinal = l.ordinal) → ∀ c : Chan,
                  (t.stream a c).cues = (s.stream a c).cues.filter (fun y => decide (y.ordinal ≠ l.ordinal))
                    ∧ (t.stream a c).queue
                      = (s.stream a c).queue.filter (fun p => decide (p.ordinal ≠ l.ordinal)))
                ∧ t = u.setAud a { u.aud a with
                    release := { (u.aud a).release with pages := (t.aud a).release.pages }
                    lane := (t.aud a).lane
                    streamer := { (u.aud a).streamer with
                      streams := (t.aud a).streamer.streams
                      bufferCount := (t.aud a).streamer.bufferCount } })
              ∧ (∀ o address r, (s.aud a).window.entry l.entry = .fetching o address r → ∃ t,
                exec (.windowLeave a) s = .next t ∧ RecordsJudged (t.aud a).window
                  ∧ (∀ b, b ≠ a → t.aud b = s.aud b) ∧ (t.aud a).tracker = (s.aud a).tracker
                  ∧ ((∀ e o address r, (u.aud a).window.entry e ≠ .fetching o address (some r)) → t = u)))

/-- WINDOW_SEEK_ORDER (R67, R68, R74): a STOPPED window ignores the oldest order; any other frees every entry, empties
its lists and hands the order's generation with its ACTIVE entries to the Release Unit and the streamer, and a search
of the order's target and generation begins. The rows of the ended TEXT cues are blanked and the carriages of the ended
AUDIO cues stop with their packets, uncounted, within this event (deduced, log 8). Once the table ready event has been
taken the target is fixed in the same event; until then the search awaits the table, whatever the table state (deduced,
log 7). The request of a probe carries the probed record's ordinal (the model's choice, log 37) and the search's
generation (deduced, log 43), and its address wraps in 64 bits (deduced, log 6). -/
def Obligations.SeekOrderEmptiesTheWindow : Prop :=
  ∀ (a : Aud) (s : State),
    ∀ o rest, (s.aud a).window.orders = o :: rest →
        let w := (s.aud a).window
        let q : Search := ⟨o.target, o.gen, !w.readyTaken, 0, 0, 0, 0, none⟩
        let texts := (w.activeOf false).map Prod.snd
        let audios := (w.activeOf true).map Prod.snd
        (w.state = .stopped →
          exec (.windowSeekOrder a) s = .next (s.setAud a { s.aud a with window := { w with orders := rest } }))
          ∧ (w.state ≠ .stopped → ∃ u : State,
            (∀ e : EntryIx, (u.aud a).window.entry e = .free)
            ∧ (u.aud a).window = { w with
                entries := (u.aud a).window.entries, state := .seeking, cursor := none, rePlacing := false
                resumeBound := none, search := some q, offers := [], poolWait := [], orders := rest }
            ∧ (u.aud a).release.handOvers = (s.aud a).release.handOvers
                ++ [⟨o.gen, texts⟩]
            ∧ (u.aud a).streamer.handOvers = (s.aud a).streamer.handOvers
                ++ [⟨o.gen, audios⟩]
            ∧ (∀ e : EntryIx, ∀ b ∈ (w.entry e).blocks, u.pool.blocks[b].holder = none)
            ∧ (∀ (c : Chan) (r : RowIx), u.row a c r =
                if ∃ o ∈ texts, (s.row a c r).owner.map RowOwner.ordinal = some o then (s.row a c r).blanked
                else s.row a c r)
            ∧ (u.aud a).lane = (s.aud a).lane.dirtied (texts.flatMap (s.aud a).rowsOwnedBy)
            ∧ (∀ c : Chan,
              (u.stream a c).cues = (s.stream a c).cues.filter (fun y => decide (y.ordinal ∉ audios))
                ∧ (u.stream a c).queue = (s.stream a c).queue.filter (fun p => decide (p.ordinal ∉ audios))
                ∧ ((∀ y ∈ (s.stream a c).cues, y.ordinal ∉ audios) →
                  (∀ p ∈ (s.stream a c).queue, p.ordinal ∉ audios) → u.stream a c = s.stream a c))
            ∧ (u.aud a).release = { (s.aud a).release with
                pages := (u.aud a).release.pages, handOvers := (u.aud a).release.handOvers }
            ∧ (u.aud a).streamer = { (s.aud a).streamer with
                streams := (u.aud a).streamer.streams, bufferCount := (u.aud a).streamer.bufferCount
                handOvers := (u.aud a).streamer.handOvers }
            ∧ (u.aud a).tracker = (s.aud a).tracker ∧ (u.aud a).state = (s.aud a).state
            ∧ (u.aud a).programme = (s.aud a).programme ∧ (u.aud a).counters = (s.aud a).counters
            ∧ (∀ b, b ≠ a → u.aud b = s.aud b)
            ∧ u.regs = s.regs ∧ u.devices = s.devices ∧ u.pending = s.pending
            ∧ u.fetch = s.fetch ∧ u.exchange = s.exchange ∧ u.incidents = s.incidents
            ∧ (w.readyTaken = false → exec (.windowSeekOrder a) s = .next u)
            ∧ (w.readyTaken = true → ∃ t, exec (.windowSeekOrder a) s = .next t ∧ TargetTaken a u t q))

/-- TABLE_READY (R36, R49, R68, R70): the event is taken once, and where a search awaits the table its target is fixed:
with every segment retired, or none reaching the search target T, the cursor stands past the table; where the first
segment that reaches T starts at or after it the cursor stands at its first record; otherwise the middle record of that
segment is probed. A target in retired ground is first reported as one MINOR RETIRED_SEEK. The request of a probe
carries the probed record's ordinal (the model's choice, log 37) and the search's generation (deduced, log 43), and its
address wraps in 64 bits (deduced, log 6). -/
def Obligations.TableReadyFixesTheTarget : Prop :=
  ∀ (a : Aud) (s : State),
    let w := (s.aud a).window
    let u := s.setAud a { s.aud a with window := { w with readyEvent := false, readyTaken := true } }
    (w.readyEvent = true → (∀ q, w.search = some q → q.awaitsTable = false) →
        exec (.tableReady a) s = .next u)
      ∧ ∀ q, w.readyEvent = true → w.search = some q → q.awaitsTable = true → ∃ t,
        exec (.tableReady a) s = .next t ∧ TargetTaken a u t q

/-- PROBE reads whose tags stand (R58, R69). The completion of the probe outstanding narrows the search: a start at or
above the search target sets hi to the probed index, a lower one sets lo past it, and a fault, whatever the timer's
count (the model's choice, logs 1 and 28), sets hi; then the next middle record is probed or the cursor is placed. A
probe carries, and is matched by, the ordinal of the record it reads (the model's choice, log 37) and the search's
generation (deduced, log 43), and its address wraps in 64 bits (deduced, log 6); any other completion changes nothing
beyond the engine's own counts. -/
def Obligations.ProbesNarrowTheSearch : Prop :=
  ∀ (tag : Nat) (s : State) (x : Flight) (a : Aud),
    ReadStands s tag x a → x.request.requester = .windowSearch →
    let awaited := fun (q : Search) (mid : Nat) =>
      (s.aud a).window.search = some q ∧ q.probe = some mid ∧ x.request.seekTag = some q.gen
        ∧ x.request.ordinal = some (q.segment * 4096 + mid)
    ((∀ q mid, ¬awaited q mid) → ∃ u, ReadGone s u x ∧ Faults tag s u
        ∧ ∀ bytes, bytes.length = x.request.length → exec (.readCompletion tag (.data bytes)) s = .next u)
      ∧ ∀ q mid g, awaited q mid → (s.aud a).programme.table[q.segment]? = some g → ∃ u, ReadGone s u x
        ∧ (∀ bytes, bytes.length = x.request.length → ∃ t, exec (.readCompletion tag (.data bytes)) s = .next t
          ∧ let start := leNat bytes 0 4 * tpf (s.aud a).programme.editRate
            (q.searchTarget ≤ start → ProbingGoesOn a u t { q with hi := mid, probe := none } g)
              ∧ (start < q.searchTarget → ProbingGoesOn a u t { q with lo := mid + 1, probe := none } g))
        ∧ ∃ t, Faults tag s t ∧ ProbingGoesOn a u t { q with hi := mid, probe := none } g

/-- Every step keeps the cues of each auditorium apart (R39, R56, R57, R67, R115, R118, R119, R124): its window's entries
hold different ordinals below the cursor's record, and on each channel the carriages are those of ACTIVE AUDIO entries,
at most four and of different cues, with the fetch carriage among them, every packet one of theirs but of none behind the
fetch, and none of them complete. That a leave which waited across a seek stops the carriages of the entry it frees is
the model's choice (log 41), and that a seek order stops them within the window's event is deduced (log 8). -/
def Obligations.CuesStayApart : Prop :=
  ∀ s t : State, (∀ a : Aud, WindowOk (s.aud a) ∧ CuesOk (s.aud a)) → step s = .next t →
    ∀ a : Aud, CuesOk (t.aud a)

/-! ### Fetch Engine -/

/-- Entry to the queue (R78): an offer enters exactly while the part is enabled, the queue holds fewer than 32 requests
and its party fewer than 4; QUEUE_FULL and PARTY_FULL name the test that fails, and where both fail it is QUEUE_FULL
(the model's choice, log 17). A request of a window that enters joins the end of the queue with its class, and one
refused joins the end of the offer list. -/
def Obligations.QueueAdmission : Prop :=
  ∀ (s : State) (p : Party),
    (s.offerResult p = .entered ↔
        s.regs.enable = true ∧ s.fetch.queue.length < 32 ∧ s.fetch.queuedCount[p] < 4)
      ∧ (s.offerResult p = .queueFull ↔ s.regs.enable = false ∨ 32 ≤ s.fetch.queue.length)
      ∧ (s.offerResult p = .partyFull ↔
        s.regs.enable = true ∧ s.fetch.queue.length < 32 ∧ 4 ≤ s.fetch.queuedCount[p])
      ∧ ∀ (a : Aud) (r : Request), r.party = p →
        (s.offerResult p = .entered →
          s.windowRequest a r = { s with fetch := s.fetch.withEntered r (s.classOf r) })
          ∧ (s.offerResult p ≠ .entered →
            s.windowRequest a r = s.setAud a { s.aud a with
              window := { (s.aud a).window with offers := (s.aud a).window.offers ++ [r] } })

/-- REQUEST_ISSUE (R79, R80, R81, R184): with four reads in flight or an empty queue nothing issues; otherwise the
request of the lowest class that entered first leaves the queue, and its departure goes to each block that holds a
refused request (R79); a read joins the in-flight set with its timer at 0; a write is posted with the party's mirror
half as it stands, its stamp one higher, a running mirror timer restarts (deduced, log 12), and a notice owed sets the
party's bit of KNOTE. That the command changes nothing where nothing can issue is the model's choice (log 2). -/
def Obligations.IssueTakesLowestClassFirst : Prop :=
  ∀ s : State,
    ((4 ≤ s.fetch.inFlight.length ∨ s.fetch.queue = []) → exec .requestIssue s = .next s)
      ∧ (s.fetch.inFlight.length < 4 → s.fetch.queue ≠ [] → ∃ before q after t,
        s.fetch.queue = before ++ q :: after
          ∧ (∀ x ∈ before, q.cls < x.cls) ∧ (∀ x ∈ after, q.cls ≤ x.cls)
          ∧ exec .requestIssue s = .next t
          ∧ t.fetch.queue = before ++ after
          ∧ t.fetch.queuedCount = s.fetch.queuedCount.set q.request.party
              (s.fetch.queuedCount[q.request.party] - 1)
          ∧ DepartureHanded q.request.party s t
          ∧ t.pool = s.pool ∧ t.devices = s.devices ∧ t.incidents = s.incidents ∧ t.pending = s.pending
          ∧ (q.request.purpose ≠ .mirrorWrite →
            t.fetch.inFlight = s.fetch.inFlight ++ [⟨s.fetch.nextTag, q.request, 0⟩]
              ∧ (∀ a : Aud, t.fetch.programmeReads[a] = s.fetch.programmeReads[a]
                + (if q.request.attachTag.isSome ∧ q.request.party = Party.slot a then 1 else 0))
              ∧ t.fetch.lastWrite = s.fetch.lastWrite ∧ t.regs = s.regs
              ∧ t.exchange.parties = s.exchange.parties)
          ∧ (q.request.purpose = .mirrorWrite →
            let p := q.request.party
            t.fetch.inFlight = s.fetch.inFlight
              ∧ t.fetch.lastWrite = some ⟨q.request.address, s.mirrorHalf p ((s.party p).stamp + 1)⟩
              ∧ t.exchange.parties = s.exchange.parties.set p { s.party p with
                  stamp := (s.party p).stamp + 1, mirrorWrite := .none, noticesOwed := false
                  mirrorTimer := (s.party p).mirrorTimer.map (fun _ => 0) }
              ∧ t.regs = (if (s.party p).noticesOwed then
                  { s.regs with knote := s.regs.knote ||| BitVec.ofNat 17 (2 ^ p.val) } else s.regs)))

/-- A read ends once (R82, R83, R84): an answer or a timeout for a tag of no read in flight changes nothing; otherwise
the read leaves the in-flight set, and where its epoch, attach or seek tag no longer stands the completion is
discarded: beyond the engine's own counts nothing changes. However it ends, and delivered or not, a programme read
takes one from its auditorium's programme reads, and hands the drained event exactly where that brings them to 0 in
CLOSING; any other read leaves those counts, and a drained event comes with its end only where it takes a request that
enters CLOSING with no programme read in flight. READ_TIMEOUT ends a read whatever its timer's count (the model's
choice, logs 1 and 28), and reads are named by the model's own tags (log 16). So a descriptor batch that completes
after its auditorium's entry to CLOSING is discarded (R50, R89; row 6 of R179 read exchanged: deduced, log 53). -/
def Obligations.ReadEndsOnce : Prop :=
  ∀ (tag : Nat) (s : State),
    (s.fetch.flight tag = none → ∀ answer,
      exec (.readCompletion tag answer) s = .next s ∧ exec (.readTimeout tag) s = .next s)
      ∧ ∀ x, s.fetch.flight tag = some x →
        (∃ t, exec (.readTimeout tag) s = .next t ∧ exec (.readCompletion tag .busError) s = .next t
          ∧ t.fetch.inFlight = s.fetch.inFlight.filter (fun y => decide (y.tag ≠ x.tag)))
        ∧ (∀ bytes, bytes.length = x.request.length → ∃ t,
          exec (.readCompletion tag (.data bytes)) s = .next t
            ∧ t.fetch.inFlight = s.fetch.inFlight.filter (fun y => decide (y.tag ≠ x.tag)))
        ∧ ((x.request.epochTag ≠ s.fetch.runEpoch
            ∨ ∃ a, x.request.party.aud? = some a
              ∧ ((∃ g, x.request.attachTag = some g ∧ g ≠ s.fetch.attachGen[a])
                ∨ ∃ g, x.request.seekTag = some g ∧ g ≠ (s.aud a).tracker.seekGen)) →
          ∀ answer t, (exec (.readTimeout tag) s = .next t
              ∨ (exec (.readCompletion tag answer) s = .next t
                ∧ ∀ bytes, answer = .data bytes → bytes.length = x.request.length)) →
            ReadGone s t x)
        ∧ ∀ answer t, (exec (.readTimeout tag) s = .next t
              ∨ (exec (.readCompletion tag answer) s = .next t
                ∧ ∀ bytes, answer = .data bytes → bytes.length = x.request.length)) →
            (∀ a : Aud, t.fetch.programmeReads[a] = s.readsLeft x a)
              ∧ (x.request.attachTag ≠ none → ∀ a : Aud, t.fetch.drained[a] = true ↔
                s.fetch.drained[a] = true
                  ∨ (x.request.party = Party.slot a ∧ (s.aud a).state = .closing
                    ∧ s.fetch.programmeReads[a] - 1 = 0))
              ∧ (x.request.attachTag = none → ∀ a : Aud, t.fetch.drained[a] = true ↔
                s.fetch.drained[a] = true
                  ∨ ((s.aud a).state = .show ∧ (t.aud a).state = .closing ∧ s.fetch.programmeReads[a] = 0))

/-- TEXT and table head reads whose tags stand (R62, R63, R64, R66). Where the entry is no longer LOADING with the
read's ordinal the completion changes nothing beyond the engine's own counts. Otherwise the answer makes the entry
READY and hands its ready event, a TEXT or CLEAR entry's to the Release Unit and an AUDIO entry's to the streamer. Of a
text, host cell k goes into cell k of the entry's blocks; of a table head, the descriptors are stored, from the entry's
own head index on (log 48). An entry that still waits for blocks becomes READY without them and leaves the wait list
(the model's choice, log 42); the read's purpose is not held against the entry's kind (the model's choice, log 49). An
error or a timeout, whatever the timer's count (the model's choice, logs 1 and 28), frees the entry with its blocks and
reports one MAJOR FETCH_FAULT with the read's address and the ordinal. -/
def Obligations.MaterialReadsCompleteEntries : Prop :=
  ∀ (tag : Nat) (s : State) (x : Flight) (a : Aud) (e : EntryIx),
    ReadStands s tag x a → (x.request.purpose = .text ∨ x.request.purpose = .audioList) →
    x.request.requester = .windowEntry e →
    ((∀ c, (s.aud a).window.entry e = .judged .loading c → x.request.ordinal ≠ some c.ordinal) → ∃ u,
      ReadGone s u x ∧ Faults tag s u
        ∧ ∀ bytes, bytes.length = x.request.length → exec (.readCompletion tag (.data bytes)) s = .next u)
      ∧ ∀ c, (s.aud a).window.entry e = .judged .loading c → x.request.ordinal = some c.ordinal →
        let ready := fun (t : State) (c : EntryCue) => t.aud a = { s.aud a with
          window := { (s.aud a).window with
            entries := (s.aud a).window.entries.set e (.judged .ready c)
            poolWait := (s.aud a).window.poolWait.filter (fun e' => decide (e' ≠ e)) }
          release := { (s.aud a).release with
            readies := (s.aud a).release.readies ++ (if c.kind = .audio then [] else [c.ordinal]) }
          streamer := { (s.aud a).streamer with
            readies := (s.aud a).streamer.readies ++ (if c.kind = .audio then [c.ordinal] else []) } }
        (x.request.purpose = .text → ∀ bytes, bytes.length = x.request.length → ∃ t,
          exec (.readCompletion tag (.data bytes)) s = .next t ∧ ready t c
            ∧ (c.blocks.Nodup → ∀ k, k < bytes.length / 2 → k < 16 * c.blocks.length →
              t.pool.textCell c.ordinal c.blocks k = ⟨byteAt bytes (2 * k), byteAt bytes (2 * k + 1)⟩)
            ∧ (∀ b : BlockIx, b ∉ c.blocks → t.pool.blocks[b] = s.pool.blocks[b])
            ∧ (∀ b : BlockIx, t.pool.blocks[b].holder = s.pool.blocks[b].holder)
            ∧ (∀ b, b ≠ a → t.aud b = s.aud b) ∧ t.incidents = s.incidents)
        ∧ (x.request.purpose = .audioList → ∀ bytes, bytes.length = x.request.length → ∃ t heads,
          exec (.readCompletion tag (.data bytes)) s = .next t
            ∧ heads.length = bytes.length / 16
            ∧ (∀ k (h : k < heads.length), (heads[k]).address.toNat = leNat bytes (16 * k) 8
                ∧ (heads[k]).length = leNat bytes (16 * k + 8) 2)
            ∧ ready t { c with tableHead := heads }
            ∧ t.pool = s.pool ∧ (∀ b, b ≠ a → t.aud b = s.aud b) ∧ t.incidents = s.incidents)
        ∧ ∃ t, Faults tag s t
          ∧ (t.aud a).window.entry e = .free
          ∧ (∀ e', e' ≠ e → (t.aud a).window.entry e' = (s.aud a).window.entry e')
          ∧ (∀ b ∈ c.blocks, t.pool.blocks[b].holder = none)
          ∧ (∀ b : BlockIx, b ∉ c.blocks → t.pool.blocks[b] = s.pool.blocks[b])
          ∧ (∀ b, b ≠ a → t.aud b = s.aud b)
          ∧ t.incidents = (s.report (Party.slot a) .major .fetchFault (some x.request.address)
              (some c.ordinal)).incidents

/-- A DIRECTORY read whose run epoch stands (R154, R182, R183, R195). The scan read of a new generation asks for the
take read, which with a new generation takes the request: its generation is the one taken, its acknowledge acts first,
then a slot's request reaches the lifecycle and the site's thresholds the Device Table, brought into their ranges, and
one notice reason is raised (log 18). A generation already taken, and a fault after one MAJOR FETCH_FAULT with the
read's address, take nothing. A read that does not lead to the take read leaves the directory read NONE, and a call
pending then makes one scan read at once. READ_TIMEOUT acts whatever the timer's count (the model's choice, logs 1 and
28). -/
def Obligations.DirectoryReadsTakeRequests : Prop :=
  (∀ (tag : Nat) (s : State) (x : Flight) (p : Party),
    s.fetch.flight tag = some x → x.request.party = p → x.request.requester = .exchange →
    x.request.epochTag = s.fetch.runEpoch → x.request.attachTag = none → x.request.seekTag = none →
    let gone := s.fetch.inFlight.filter (fun y => decide (y.tag ≠ x.tag))
    let u := { s with fetch := { s.fetch with inFlight := gone } }
    let ended := fun (v t : State) =>
      let f := v.updParty p (fun y => { y with directoryRead := .none, callPending := false })
      if (s.party p).callPending then ScanReadMade p f t else t = f
    (∀ half, half.length = x.request.length →
      let gen := BitVec.ofNat 32 (leNat half 0 4)
      let taken := u.updParty p (fun y => { y with
        takenGen := some gen
        mirrorTimer := if p = Party.site ∧ y.takenGen = none then some 0 else y.mirrorTimer })
      ((s.party p).directoryRead ≠ .none → (s.party p).takenGen = some gen → ∃ t,
          exec (.readCompletion tag (.data half)) s = .next t ∧ ended u t)
        ∧ ((s.party p).directoryRead = .scan → (s.party p).takenGen ≠ some gen → ∃ t,
          exec (.readCompletion tag (.data half)) s = .next t
            ∧ t.exchange.parties = s.exchange.parties.set p { s.party p with directoryRead := .take }
            ∧ (if s.offerResult p = .entered then
                t.fetch = u.fetch.withEntered (s.halfRead p) 1 ∧ t.exchange.offers = s.exchange.offers
              else t.fetch = u.fetch ∧ t.exchange.offers = s.exchange.offers ++ [s.halfRead p])
            ∧ t = { u with fetch := t.fetch, exchange := t.exchange })
        ∧ ((s.party p).directoryRead = .take → (s.party p).takenGen ≠ some gen → ∃ v t,
          exec (.readCompletion tag (.data half)) s = .next t ∧ ended v t
            ∧ (∀ a, p = Party.slot a → v = ((taken.acknowledge p (BitVec.ofNat 16 (leNat half 0x1C 2))).handRequest a
                (readSlotRequest half)).raiseReason p)
            ∧ (p = Party.site → v = ((taken.acknowledge p (BitVec.ofNat 16 (leNat half 8 2))).takeThresholds
                ⟨leNat half 4 2, leNat half 6 2, BitVec.ofNat 16 (leNat half 8 2)⟩).raiseReason p)
            ∧ (v.party p).takenGen = some gen ∧ (v.party p).noticesOwed = true ∧ (v.party p).mirrorWrite ≠ .none
            ∧ (∀ q, q ≠ p → v.incident q = s.incident q)))
      ∧ ∃ t, exec (.readTimeout tag) s = .next t ∧ exec (.readCompletion tag .busError) s = .next t
        ∧ ended (u.report p .major .fetchFault (some x.request.address) none) t)
    ∧ ∀ (s : State) (r : SiteRequest),
      let t := s.takeThresholds r
      let quiet := max 2 (min 60 r.quiet)
      let held := max 10 (min 600 r.release)
      let clamp := fun (u : State) (b : Prop) (v : State) =>
        (b → v = u) ∧ (¬b → v = u.report Party.site .minor .configClamped none none)
      t.devices.quietThreshold = quiet
        ∧ t.devices.releaseThreshold = (if held ≤ quiet then quiet + 1 else held)
        ∧ t.devices.entries = s.devices.entries ∧ t.devices.audience = s.devices.audience
        ∧ ∃ v, clamp { s with devices := t.devices } (quiet = r.quiet) v
          ∧ clamp v (t.devices.releaseThreshold = r.release) t

/-- OFFER_AFTER_DEPARTURE (R33, R58, R79, R121, R181): a block that takes a departure event offers its requests, each
entering with its class as it stands. The window's enter in list order up to the first refusal; the Programme Unit's
waiting batch enters or waits on; the streamer first drops the requests whose packet entry or carriage is gone, a
dropped batch leaving no batch outstanding on its channel (deduced, log 14), and the rest enter in list order up to the
first refusal; the Exchange Unit's enter in list order, each that stays being one the queue refuses, and a mirror write
that enters is QUEUED. Whatever the block the queue only grows at its end and no read is touched. -/
def Obligations.OffersAfterDeparture : Prop :=
  ∀ (b : OfferBlock) (s : State), ∃ t, exec (.offerAfterDeparture b) s = .next t
    ∧ (∃ entered, t.fetch.queue = s.fetch.queue ++ entered) ∧ t.fetch.inFlight = s.fetch.inFlight
    ∧ t.regs = s.regs ∧ t.pool = s.pool ∧ t.devices = s.devices ∧ t.incidents = s.incidents
    ∧ (∀ a d rest, b = .window a → (s.aud a).window.departures = d :: rest → ∃ entered left,
        (s.aud a).window.offers = entered ++ left
          ∧ t.fetch.queue = s.fetch.queue ++ entered.map (fun r => ⟨r, s.classOf r⟩)
          ∧ (t.aud a).window = { (s.aud a).window with departures := rest, offers := left }
          ∧ (∀ r more, left = r :: more → t.offerResult r.party ≠ .entered)
          ∧ t = { s.setAud a { s.aud a with window := (t.aud a).window } with fetch := t.fetch })
    ∧ (∀ a d rest r, b = .programme a → (s.aud a).programme.departures = d :: rest →
        (s.aud a).programme.batch = .waiting r →
        (t.aud a).programme.departures = rest
          ∧ if s.offerResult r.party = .entered then
            (t.aud a).programme.batch = .outstanding ∧ t.fetch = s.fetch.withEntered r (s.classOf r)
          else (t.aud a).programme.batch = .waiting r ∧ t.fetch = s.fetch)
    ∧ (∀ a d rest, b = .streamer a → (s.aud a).streamer.departures = d :: rest →
        let u := (s.aud a).streamer
        ∃ entered left,
          (entered ++ left).Sublist u.offers ∧ (∀ r ∈ u.offers, r ∈ entered ++ left ↔ Wanted u r)
          ∧ (∀ r, (entered ++ left).count r = 0 ∨ (entered ++ left).count r = u.offers.count r)
          ∧ t.fetch.queue = s.fetch.queue ++ entered.map (fun r => ⟨r, s.classOf r⟩)
          ∧ (t.aud a).streamer = { u with
              departures := rest, offers := left, streams := (t.aud a).streamer.streams }
          ∧ (∀ c : Chan, ∃ out, t.stream a c = { s.stream a c with batchOut := out }
              ∧ (out = false ↔ (s.stream a c).batchOut = false
                ∨ ∃ r ∈ u.offers, ¬Wanted u r ∧ ∃ k, r.requester = .streamBatch c k))
          ∧ (∀ r more, left = r :: more → t.offerResult r.party ≠ .entered)
          ∧ t = { s.setAud a { s.aud a with streamer := (t.aud a).streamer } with fetch := t.fetch })
    ∧ (∀ d rest, b = .exchange → s.exchange.departures = d :: rest → ∃ entered,
        entered.Sublist s.exchange.offers ∧ t.exchange.offers.Sublist s.exchange.offers
          ∧ (entered ++ t.exchange.offers).Perm s.exchange.offers
          ∧ t.fetch.queue = s.fetch.queue ++ entered.map (fun r => ⟨r, s.classOf r⟩)
          ∧ (∀ r ∈ t.exchange.offers, t.offerResult r.party ≠ .entered)
          ∧ t.exchange.departures = rest
          ∧ (∀ q : Party, t.party q = { s.party q with
              mirrorWrite := if ∃ r ∈ entered, r.purpose = .mirrorWrite ∧ r.party = q then .queued
                else (s.party q).mirrorWrite })
          ∧ t = { s with fetch := t.fetch, exchange := t.exchange })

/-! ### Text Pool -/

/-- A grant of the pool (R86): in a sound state the blocks granted are exactly the number needed, free, rising in
number and the lowest free ones of the auditorium's reserve or of the shared part; the reserve serves a holding that
stays within 16, the shared part any other, and a need that neither meets is refused. Blocks granted are held by the
entry from then on, their cells as they were, and the holdings rise part by part. -/
def Obligations.PoolGrantIsWholeOrNothing : Prop :=
  (∀ (s : State) (a : Aud) (n : Nat), PoolOk s →
    let own := s.pool.reserveHeld[a] + s.pool.sharedHeld[a] + n ≤ 16
    let part := fun (b : BlockIx) => (own → b.val / 16 = a.val) ∧ (¬own → 256 ≤ b.val)
    (∀ bs, s.pool.choose a n = some bs →
      bs.length = n ∧ bs.Pairwise (fun x y => x < y) ∧ (∀ b ∈ bs, s.pool.blocks[b].holder = none ∧ part b)
        ∧ ∀ b ∈ bs, ∀ b' : BlockIx, b' < b → s.pool.blocks[b'].holder = none → part b' → b' ∈ bs)
      ∧ (s.pool.choose a n = none ↔
        ¬own ∧ ((List.finRange 512).filter (fun (b : BlockIx) =>
              decide (256 ≤ b.val) && s.pool.blocks[b].holder.isNone)).length < n))
    ∧ ∀ (p : Pool) (a : Aud) (e : EntryIx) (bs : List BlockIx),
      let q := p.grant a e bs
      (∀ b : BlockIx, q.blocks[b] = if b ∈ bs then { p.blocks[b] with holder := some (a, e) } else p.blocks[b])
        ∧ q = { p with
            blocks := q.blocks
            reserveHeld := p.reserveHeld.set a
              (p.reserveHeld[a] + (bs.filter (fun b => decide (b.val < 256))).length)
            sharedHeld := p.sharedHeld.set a
              (p.sharedHeld[a] + (bs.filter (fun b => decide (256 ≤ b.val))).length) }

/-- POOL_RETRY_ROUND (R61, R86, R87, R88): a round uses up one round owed. The turns go from the auditorium after the
retry pointer, once round. In a turn the waiting entries are served from the front of the list, each on what those
before it have left, while the entry is LOADING and the pool has its blocks: it holds them, is off the wait list, and
its TEXT read is asked for; the first that is not served ends the turn. The pointer becomes each auditorium that was
granted anything; where no auditorium can be served nothing but the round is gone. A round takes no block from its
holder, shortens wait lists only, leaves a window nobody waits in as it is, and moves nothing outside the pool, the
windows and the queue. -/
def Obligations.RetryRoundGrantsInTurn : Prop :=
  (∀ (s : State) (a : Aud) (e : EntryIx) (c : EntryCue) (bs : List BlockIx),
      let t := s.grantText a e c bs
      (t.aud a).window = { (s.aud a).window with
          entries := (s.aud a).window.entries.set e (.judged .loading { c with blocks := bs })
          poolWait := (s.aud a).window.poolWait.filter (fun x => decide (x ≠ e))
          offers := (t.aud a).window.offers }
        ∧ t.pool = s.pool.grant a e bs
        ∧ WindowAsked a s t (s.cueRequestOf a .text (.windowEntry e) c.ordinal c.reference (80 * c.lines)
            (.near c.start))
        ∧ t = { s.setAud a { s.aud a with window := (t.aud a).window } with pool := t.pool, fetch := t.fetch })
    ∧ (∀ (s : State) (a : Aud) (e : EntryIx) (waiting : List EntryIx),
      let served := fun c bs =>
        (s.aud a).window.entry e = .judged .loading c ∧ s.pool.choose a ((c.lines * 40 + 15) / 16) = some bs
      s.retryTurn a [] = (s, false)
        ∧ ((∀ c bs, ¬served c bs) → s.retryTurn a (e :: waiting) = (s, false))
        ∧ (∀ c bs, served c bs →
          s.retryTurn a (e :: waiting) = (((s.grantText a e c bs).retryTurn a waiting).1, true))
        ∧ ((s.retryTurn a (s.aud a).window.poolWait).2 = false → s.retryAuditorium a = s)
        ∧ ((s.retryTurn a (s.aud a).window.poolWait).2 = true →
          let t := (s.retryTurn a (s.aud a).window.poolWait).1
          s.retryAuditorium a = { t with pool := { t.pool with retryPointer := a } }))
    ∧ ∀ s : State,
    0 < s.pool.roundsOwed → ∃ t, exec .poolRetryRound s = .next t
        ∧ t = ((List.finRange 16).map (fun i => s.pool.retryPointer + 1 + i)).foldl State.retryAuditorium
            { s with pool := { s.pool with roundsOwed := s.pool.roundsOwed - 1 } }
        ∧ t.pool.roundsOwed + 1 = s.pool.roundsOwed
        ∧ (∀ a : Aud, (t.aud a).window.poolWait.Sublist (s.aud a).window.poolWait)
        ∧ (∀ a : Aud, (s.aud a).window.poolWait = [] → t.aud a = s.aud a)
        ∧ (∀ a : Aud, t.aud a = { s.aud a with window := (t.aud a).window })
        ∧ ((∀ a : Aud, (s.aud a).window.poolWait = []) →
            t.pool = { s.pool with roundsOwed := s.pool.roundsOwed - 1 } ∧ t.fetch = s.fetch)
        ∧ (∀ (b : BlockIx) (h : Aud × EntryIx), s.pool.blocks[b].holder = some h →
            t.pool.blocks[b].holder = some h)
        ∧ t.fetch.inFlight = s.fetch.inFlight
        ∧ t = { s with pool := t.pool, fetch := t.fetch, auds := t.auds }
        ∧ ((∀ a e c bs, ¬Servable s a e c bs) →
            t = { s with pool := { s.pool with roundsOwed := s.pool.roundsOwed - 1 } })
        ∧ (∀ (i : Fin 16) (e : EntryIx) (c : EntryCue) (bs : List BlockIx),
            let a := s.pool.retryPointer + 1 + i
            (∀ j, j < i → ∀ e c bs, ¬Servable s (s.pool.retryPointer + 1 + j) e c bs) →
            Servable s a e c bs → (s.aud a).window.poolWait.Nodup →
            (t.aud a).window.entry e = .judged .loading { c with blocks := bs }
              ∧ e ∉ (t.aud a).window.poolWait ∧ (∀ b ∈ bs, t.pool.blocks[b].holder = some (a, e))
              ∧ (let r := s.cueRequestOf a .text (.windowEntry e) c.ordinal c.reference (80 * c.lines) (.near c.start)
                (∃ q ∈ t.fetch.queue, q.request = r) ∨ r ∈ (t.aud a).window.offers))
        ∧ (∀ i : Fin 16,
            let turn := fun (k : Fin 16) => s.pool.retryPointer + 1 + k
            let granted := fun (a : Aud) => (t.aud a).window.poolWait ≠ (s.aud a).window.poolWait
            granted (turn i) → (∀ j, i < j → ¬granted (turn j)) → t.pool.retryPointer = turn i)

/-! ### Release Unit -/

/-- The Release Unit's orders and the seek hand-over (R109, R110, R111): a seek order blanks every TEXT row, takes the
generation and sets Q to P; a hold order blanks the same rows, hands a leave for every ACTIVE TEXT entry and sets Q to
P; a hand-over blanks the rows the listed cues own, empties the leaving list and sets the window generation. -/
def Obligations.ReleaseOrdersTaken : Prop :=
  ∀ (a : Aud) (s : State),
    let x := s.aud a
    let frame := fun (t : State) (y : Release) =>
      t = s.setAud a { x with release := y, lane := (t.aud a).lane, window := (t.aud a).window }
    (∀ target gen rest, x.release.orders = .seek target gen :: rest → ∃ t,
        exec (.releaseSeekOrder a) s = .next t
          ∧ TextPagesBlanked x (t.aud a) ∧ (t.aud a).lane = x.lane.dirtied x.textRows
          ∧ (t.aud a).window = x.window
          ∧ frame t { x.release with
              orders := rest, takenGen := gen, releasePoint := s.position a
              pages := (t.aud a).release.pages })
      ∧ (∀ rest, x.release.orders = .hold :: rest → ∃ t,
        exec (.releaseHoldOrder a) s = .next t
          ∧ TextPagesBlanked x (t.aud a) ∧ (t.aud a).lane = x.lane.dirtied x.textRows
          ∧ (t.aud a).window = { x.window with
              leaves := x.window.leaves ++ (x.window.activeOf false).map (fun y => ⟨y.1, y.2⟩) }
          ∧ (∀ o, o ∈ (t.aud a).release.leaving ↔
              o ∈ x.release.leaving ∨ o ∈ (x.window.activeOf false).map Prod.snd)
          ∧ frame t { x.release with
              orders := rest, releasePoint := s.position a, leaving := (t.aud a).release.leaving
              pages := (t.aud a).release.pages })
      ∧ ∀ h rest, x.release.handOvers = h :: rest → ∃ t,
        exec (.releaseSeekHandOver a) s = .next t
          ∧ (∀ (c : Chan) (r : RowIx), (t.aud a).release.pages[c][r] =
              match x.release.pages[c][r].owner with
              | some o => if o.ordinal ∈ h.ordinals then x.release.pages[c][r].blanked
                  else x.release.pages[c][r]
              | none => x.release.pages[c][r])
          ∧ (t.aud a).lane = x.lane.dirtied (h.ordinals.flatMap x.rowsOwnedBy)
          ∧ (t.aud a).window = x.window
          ∧ frame t { x.release with
              handOvers := rest, leaving := [], windowGen := h.gen, pages := (t.aud a).release.pages }

/-- Position checks (R98 to R102, R105, R107, R108). Outside SHOW a local tick makes none. Every check to a bound U
leaves Q at the higher of Q and U and keeps what the unit does not act on. With the gate closed it does no more than
prune the leaving list. With the gate open it takes the judged entries in window order as pending; then the ends and
starts in (Q, U] in time order, ends first, and there by (start, ordinal), a walk of more than 6 ticks being a catch-up
walk; then it sweeps the judged entries in window order. Pending entries are not of the walk (deduced, log 22), and the
gate reads the tracker as it stands (deduced, log 50). After an open check at a local tick no TEXT entry still LOADING
or READY has its end at or before P, and no unflagged READY TEXT or CLEAR entry its start at or before Q, but such as
are leaving. -/
def Obligations.PositionChecksAdvanceQ : Prop :=
  (∀ (a : Aud) (s : State),
    let x := s.aud a
    let checks := fun (c : Instr) (y : Release) (u : Nat) (testCurrent : Bool) => ∃ t,
      let q := x.release.releasePoint
      let v := s.setAud a { x with release := { y with
        leaving := x.release.leaving.filter (fun o => x.window.holds o) } }
      exec c s = .next t
        ∧ (t.aud a).release.releasePoint = max q u
        ∧ (t.aud a).tracker = x.tracker ∧ (t.aud a).programme = x.programme
        ∧ (t.aud a).streamer = x.streamer ∧ (t.aud a).release.channels = x.release.channels
        ∧ (t.aud a).state = x.state ∧ (∀ b, b ≠ a → t.aud b = s.aud b)
        ∧ t.regs = s.regs ∧ t.pool = s.pool ∧ t.devices = s.devices ∧ t.pending = s.pending
        ∧ (¬ReleaseGateOpen x testCurrent →
          t = v.updRelease a (fun z => { z with releasePoint := max q u }))
        ∧ (ReleaseGateOpen x testCurrent → ∃ (pended : State) (items : List WalkItem),
          pended = x.window.judgedOrder.foldl (State.pendingStep u a) v
            ∧ items.Nodup
            ∧ (∀ i, i ∈ items ↔ ∃ stage d, (pended.aud a).window.entry i.entry = .judged stage d
              ∧ i.start = d.start ∧ i.ordinal = d.ordinal ∧ q < i.tick ∧ i.tick ≤ u
              ∧ ((i.phase = 0 ∧ d.kind = .text ∧ i.tick = d.finish)
                ∨ (i.phase = 1 ∧ d.kind ≠ .audio ∧ i.tick = d.start)))
            ∧ items.Pairwise (fun i j => i.tick < j.tick ∨ (i.tick = j.tick ∧ (i.phase < j.phase
              ∨ (i.phase = j.phase ∧ (i.start < j.start ∨ (i.start = j.start ∧ i.ordinal ≤ j.ordinal))))))
            ∧ t = (x.window.judgedOrder.foldl (State.sweepStep u a)
                (items.foldl (State.walkStep u (decide (q + 6 < u)) a) pended)).updRelease a (fun z =>
                  { z with releasePoint := max q u }))
    (x.state ≠ .show → exec (.releaseTickCheck a) s = .next s)
      ∧ (x.state = .show → checks (.releaseTickCheck a) x.release (s.position a) true)
      ∧ (∀ o rest, x.release.readies = o :: rest →
        checks (.releaseReadyCheck a) { x.release with readies := rest } (s.position a) true)
      ∧ ∀ oldP newP rest, x.release.orders = .catchUp oldP newP :: rest →
        checks (.releaseCatchUpOrder a) { x.release with orders := rest } newP false)
    ∧ ∀ (a : Aud) (s t : State), ReleaseGateOpen (s.aud a) true → exec (.releaseTickCheck a) s = .next t →
      (∀ e stage c, (t.aud a).window.entry e = .judged stage c → stage ≠ .active → c.kind = .text →
        c.finish ≤ s.position a → c.ordinal ∈ (t.aud a).release.leaving)
        ∧ ∀ e c, (t.aud a).window.entry e = .judged .ready c → c.kind ≠ .audio → c.flagged = false →
          c.start ≤ (t.aud a).release.releasePoint → c.ordinal ∈ (t.aud a).release.leaving

/-- One entry in a check (R99, R100, R102 to R108). As pending a READY entry that starts at or before Q, or is resumed,
is missed where it is a TEXT entry with its end at or before U, and else released unless held back; a catch-up entry
that starts after Q is left to the walk (deduced, log 21). In the walk an end acts on an entry ACTIVE by then and a
start on a READY one not held back; in the sweep a TEXT entry still LOADING or READY at its end is missed. Leaving
entries are passed over. A released TEXT cue takes its rows, and is ACTIVE with "cues released", or superseded, or
unrouted with its leave; a released CLEAR blanks its rows, counts and leaves. A catch-up release counts a slip; any
other of an entry that is not resumed is late where U is past its start by more than 6, with one MINOR TEXT_LATE. A
missed cue counts and leaves with one MAJOR CUE_MISSED; an ended one has its rows blanked and leaves. A flagged entry
is held back by a flagged one before it that is LOADING or READY and not leaving (deduced, log 21). -/
def Obligations.CuesReleasedEndedAndMissed : Prop :=
  (∀ (s : State) (a : Aud) (e : EntryIx) (c : EntryCue) (u : Nat) (inCatchUp : Bool),
    let x := s.aud a
    let caught := (inCatchUp = true ∨ c.catchUp = true) ∧ c.resumed = false
    let late := c.start + 6 < u ∧ ¬caught ∧ c.resumed = false
    let routed := ∃ ch : Chan, Routes x.release.channels[ch] c
    let t := s.releaseEntry a e c u inCatchUp
    let raised := fun (released superseded : Nat) (mayBeLate : Prop) => ∃ l : Nat,
      (late ∧ mayBeLate → l = 1
          ∧ t.incidents = (s.report (Party.slot a) .minor .textLate none (some c.ordinal)).incidents)
        ∧ (¬(late ∧ mayBeLate) → l = 0 ∧ t.incidents = s.incidents ∧ t.fetch = s.fetch ∧ t.exchange = s.exchange)
        ∧ ∃ slips : Nat, (caught → slips = 1) ∧ (¬caught → slips = 0)
          ∧ CountersRaised a s t (fun k =>
              if k = 1 then slips else if k = 3 then released else if k = 4 then l
              else if k = 6 then superseded else 0)
    ReleaseActs a s t
      ∧ (c.kind = .text →
        RowsChanged a s t (s.rowsToTake a c) (fun ch r =>
            ⟨s.decodeLine x.release.channels[ch] c r, some ⟨c.ordinal, c.start⟩, (s.row a ch r).version + 1⟩)
          ∧ (s.rowsToTake a c ≠ [] → raised 1 0 True ∧ (t.aud a).release.leaving = x.release.leaving
            ∧ (t.aud a).window = { x.window with entries := x.window.entries.set e (.judged .active c) })
          ∧ (s.rowsToTake a c = [] → LeaveHanded a e c.ordinal s t
            ∧ (routed → raised 0 1 False) ∧ (¬routed → raised 0 0 False)))
      ∧ (c.kind = .clear → RowsChanged a s t (s.rowsToClear a c) (fun ch r => (s.row a ch r).blanked)
          ∧ LeaveHanded a e c.ordinal s t ∧ raised 1 0 True))
    ∧ (∀ (s : State) (a : Aud) (e : EntryIx) (c : EntryCue),
      let m := s.missEntry a e c
      let t := s.endEntry a e c
      (ReleaseActs a s m ∧ LeaveHanded a e c.ordinal s m ∧ CountersRaised a s m (fun k => if k = 5 then 1 else 0)
          ∧ (m.aud a).release.pages = (s.aud a).release.pages ∧ (m.aud a).lane = (s.aud a).lane
          ∧ m.incidents = (s.report (Party.slot a) .major .cueMissed none (some c.ordinal)).incidents)
        ∧ ReleaseActs a s t ∧ LeaveHanded a e c.ordinal s t ∧ CountersRaised a s t (fun _ => 0)
        ∧ RowsChanged a s t ((s.aud a).rowsOwnedBy c.ordinal) (fun ch r => (s.row a ch r).blanked)
        ∧ t = s.setAud a (t.aud a))
    ∧ (∀ (s : State) (a : Aud) (c : EntryCue), s.heldBack a c = true ↔
      (c.resumed = true ∨ c.catchUp = true) ∧ ∃ e stage d, (s.aud a).window.entry e = .judged stage d
        ∧ stage ≠ .active ∧ d.kind ≠ .audio ∧ (d.resumed = true ∨ d.catchUp = true)
        ∧ (d.start < c.start ∨ (d.start = c.start ∧ d.ordinal < c.ordinal))
        ∧ d.ordinal ∉ (s.aud a).release.leaving)
    ∧ (∀ (s : State) (a : Aud) (e : EntryIx) (u : Nat),
      ((∀ c, ¬MayRelease s a e c) → State.pendingStep u a s e = s)
        ∧ ∀ c, MayRelease s a e c →
          let due := c.start ≤ (s.aud a).release.releasePoint ∨ c.resumed = true
          let tooLate := c.kind = .text ∧ c.finish ≤ u
          (¬due → State.pendingStep u a s e = s)
            ∧ (due → tooLate → State.pendingStep u a s e = s.missEntry a e c)
            ∧ (due → ¬tooLate → s.heldBack a c = true → State.pendingStep u a s e = s)
            ∧ (due → ¬tooLate → s.heldBack a c = false → State.pendingStep u a s e = s.releaseEntry a e c u false))
    ∧ (∀ (s : State) (a : Aud) (i : WalkItem) (u : Nat) (inCatchUp : Bool),
      let t := State.walkStep u inCatchUp a s i
      (i.phase = 0 → ∀ c, (s.aud a).window.entry i.entry = .judged .active c →
          c.ordinal ∉ (s.aud a).release.leaving → t = s.endEntry a i.entry c)
        ∧ (i.phase = 0 → (∀ c, (s.aud a).window.entry i.entry = .judged .active c →
          c.ordinal ∈ (s.aud a).release.leaving) → t = s)
        ∧ (i.phase ≠ 0 → (∀ c, MayRelease s a i.entry c → s.heldBack a c = true) → t = s)
        ∧ (i.phase ≠ 0 → ∀ c, MayRelease s a i.entry c → s.heldBack a c = false →
          t = s.releaseEntry a i.entry c u inCatchUp))
    ∧ ∀ (s : State) (a : Aud) (e : EntryIx) (u : Nat),
      let missed := fun c => ∃ stage, (s.aud a).window.entry e = .judged stage c ∧ stage ≠ .active ∧ c.kind = .text
        ∧ c.finish ≤ u ∧ c.ordinal ∉ (s.aud a).release.leaving
      (∀ c, missed c → State.sweepStep u a s e = s.missEntry a e c)
        ∧ ((∀ c, ¬missed c) → State.sweepStep u a s e = s)

/-- Rows of a released TEXT cue (R94, R95, R96, R97, R102): the cue takes exactly the rows it covers on the channels it
routes to whose owner is none or an earlier cue by (start, ordinal), each with its line decoded for the channel and its
version one higher, and no other row changes. The line of row r is the cue's line r - first row: its column j shows
host cell 40 (r - first row) + j of the cue's text, which lies in the cue's blocks 16 to a block. The decode forms
glyph and colours by the channel's glyph mode and overrides. -/
def Obligations.RowsTakenByOwnership : Prop :=
  (∀ (s : State) (a : Aud) (c : EntryCue) (ch : Chan) (r : RowIx),
    let row := s.row a ch r
    let d := (s.aud a).release.channels[ch]
    let routed := d.kind = .text ∧ c.trackMask.getLsbD d.track.val = true
      ∧ d.classCare &&& (c.classFlags ^^^ d.classMatch) = 0
    let covered := c.firstRow.val ≤ r.val ∧ r.val < c.firstRow.val + c.lines
    let won := ∀ o, row.owner = some o →
      o.start < c.start ∨ (o.start = c.start ∧ o.ordinal < c.ordinal)
    (routed ∧ covered ∧ won →
        (s.placeRows a c).1.row a ch r = ⟨s.decodeLine d c r, some ⟨c.ordinal, c.start⟩, row.version + 1⟩)
      ∧ (¬(routed ∧ covered ∧ won) → (s.placeRows a c).1.row a ch r = row))
    ∧ (∀ (s : State) (d : ChannelDescriptor) (c : EntryCue) (r : RowIx) (j : Fin 40) (b : BlockIx) (i : Fin 16),
      let k := 40 * (r.val - c.firstRow.val) + j.val
      c.blocks[k / 16]? = some b → i.val = k % 16 →
        (s.decodeLine d c r)[j] = decodeCell d s.pool.blocks[b].cells[i])
    ∧ ∀ (d : ChannelDescriptor) (h : HostCell),
      let select := if h.attr.getLsbD 3 then 1 else 0
      let base := h.attr.toNat % 8
      (decodeCell d h).glyph.toNat = (match d.glyphMode with
          | .g256 => h.code.toNat
          | .g512 => h.code.toNat + 256 * select)
        ∧ (decodeCell d h).fg.toNat = (if d.fgEnable then d.fgValue.toNat
            else match d.glyphMode with
              | .g256 => base + 8 * select
              | .g512 => base)
        ∧ (decodeCell d h).bg.toNat = (if d.bgEnable then d.bgValue.toNat else h.attr.toNat / 16 % 8)
        ∧ (decodeCell d h).flash = (if d.flashEnable then d.flashValue else h.attr.getLsbD 7)

/-! ### Description Streamer -/

/-- The streamer's orders and the seek hand-over (R127, R128): a seek order flushes every stream context and the offer
list and takes the generation; a hold order flushes the contexts and hands a leave for every ACTIVE AUDIO entry; a
hand-over sets the window generation and leaves no carriage and no packet of the listed cues. -/
def Obligations.StreamOrdersTaken : Prop :=
  ∀ (a : Aud) (s : State),
    let x := s.aud a
    (∀ target gen rest, x.streamer.orders = .seek target gen :: rest →
        exec (.streamSeekOrder a) s = .next (s.setAud a { x with streamer := { x.streamer with
          streams := Vector.replicate 4 Stream.reset, bufferCount := 0, offers := [], takenGen := gen
          orders := rest } }))
      ∧ (∀ rest, x.streamer.orders = .hold :: rest →
        exec (.streamHoldOrder a) s = .next (s.setAud a { x with
          streamer := { x.streamer with
            streams := Vector.replicate 4 Stream.reset, bufferCount := 0, orders := rest }
          window := { x.window with
            leaves := x.window.leaves ++ (x.window.activeOf true).map (fun y => ⟨y.1, y.2⟩) } }))
      ∧ ∀ h rest, x.streamer.handOvers = h :: rest → ∃ t,
        exec (.streamSeekHandOver a) s = .next t
          ∧ t = s.setAud a { x with streamer := { x.streamer with
              handOvers := rest, windowGen := h.gen, streams := (t.aud a).streamer.streams
              bufferCount := (t.aud a).streamer.bufferCount } }
          ∧ ∀ c : Chan,
            (t.stream a c).cues = (s.stream a c).cues.filter (fun y => decide (y.ordinal ∉ h.ordinals))
              ∧ (t.stream a c).queue = (s.stream a c).queue.filter (fun p => decide (p.ordinal ∉ h.ordinals))

/-- The streamer's checks (R117, R119, R124, R125, R126). Outside SHOW a local tick makes none. In SHOW it makes an
open check, which does nothing with the gate closed (read as the tracker stands: deduced, log 50), and then an unheard
sweep against P + 24 (in this order by the model's choice, log 51), which is made only in LOCKED or FREEWHEEL and of
the AUDIO channels with no audience: exactly the packets, and the unfetched indices of the fetch carriage, presented
at or below P + 264 go, and count as unheard. A ready event is gone and makes an open check. A catch-up order first
drops from the AUDIO channels exactly what is presented after its old P and at or below its new P, and counts it as
late, an index below that range being passed uncounted and only with one in it (the model's, log 20); each carriage
that loses one so, unless it is quiet or reported already, makes one MINOR AUDIO_LATE, by ascending channel and in the
order of the cue list (the model's choice, log 47); then it makes an open check without condition 5. By a sweep or a
drop the next fetch index of a channel acted on is moved past exactly the unfetched indices lost, and the descriptors
below it leave the cache; then the channel settles, the channels in ascending order: its complete carriages leave the
list, count as completed and hand the leaves of entries that no channel carries any more, the fetch passes on from a
carriage fetched to its end, and all else of its context and the offer list stands. A carriage to which the fetch
passes in a sweep or a drop loses none of its unfetched indices in that event (the model's choice, log 52). The next
fetch index passes an index of the fetch carriage exactly where its presentation is below the bound. The checks keep
the tracker, programme, Release Unit, lane and every other auditorium. -/
def Obligations.StreamChecksCompleted : Prop :=
  (∀ (x : Stream) (bound : Nat), x.nextIndex ≤ x.passedTo bound
      ∧ (x.fetchCarriage = none → x.passedTo bound = x.nextIndex)
      ∧ ∀ y k, x.fetchCarriage = some y → x.nextIndex ≤ k →
        (k < x.passedTo bound ↔ k < y.stop ∧ y.start + 24 * k < bound))
    ∧ ∀ (a : Aud) (s : State),
    let x := s.aud a
    let stands := fun (t : State) =>
      (t.aud a).tracker = x.tracker ∧ (t.aud a).programme = x.programme ∧ (t.aud a).release = x.release
        ∧ (t.aud a).lane = x.lane ∧ (t.aud a).state = x.state ∧ (∀ b, b ≠ a → t.aud b = s.aud b)
        ∧ t.regs = s.regs ∧ t.pool = s.pool ∧ t.devices = s.devices ∧ t.pending = s.pending
    let dropped := fun (u t : State) (k : Fin 16) (reports : Bool) (acts : Chan → Bool) (lowest bound : Nat) =>
      (∀ c : Chan, if acts c then
          (t.stream a c).queue = (u.stream a c).queue.filter (fun p =>
            !decide (lowest ≤ p.presentation ∧ p.presentation < bound))
            ∧ (∀ y ∈ (t.stream a c).cues, ∃ z ∈ (u.stream a c).cues, y = { z with
                lateReported := z.lateReported || (reports
                  && ((u.stream a c).reportedIn lowest bound).any (fun v => decide (v.ordinal = z.ordinal))) })
        else t.stream a c = u.stream a c)
        ∧ (t.aud a).counters[k] = (u.aud a).counters[k]
          + BitVec.ofNat 32 (overChannels (fun c => if acts c then (u.stream a c).lostIn lowest bound else 0))
        ∧ (∀ k' : Fin 16, k' ≠ k → k' ≠ 12 → (t.aud a).counters[k'] = (u.aud a).counters[k'])
        ∧ t.incidents = (if reports then (u.audioLate a acts lowest bound).incidents else u.incidents)
        ∧ (∃ more, (t.aud a).window = { (u.aud a).window with leaves := (u.aud a).window.leaves ++ more })
        ∧ t = (List.finRange 4).foldl (fun v c => if acts c then v.channelLoss a k reports lowest bound c else v) u
        ∧ ((∀ c : Chan, acts c = true → CuesApart (u.stream a c)) →
          let after := fun (c : Chan) => (u.stream a c).afterLoss reports lowest bound
          (∀ c : Chan, acts c = true → t.stream a c = (after c).settled (u.aud a).window)
            ∧ (t.aud a).counters[(12 : Fin 16)] = (u.aud a).counters[(12 : Fin 16)]
              + BitVec.ofNat 32 (overChannels (fun c => if acts c then (after c).completed.length else 0))
            ∧ (t.aud a).window.leaves = (u.aud a).window.leaves ++ u.leavesSettling a acts after)
    (x.state ≠ .show → exec (.streamTickCheck a) s = .next s)
      ∧ (x.state = .show → ∃ t, exec (.streamTickCheck a) s = .next t ∧ stands t
        ∧ ∃ u, (StreamGateOpen x true → u = s.openCheck a none true) ∧ (¬StreamGateOpen x true → u = s)
          ∧ (x.tracker.state ≠ .locked → x.tracker.state ≠ .freewheel → t = u)
          ∧ (x.tracker.state = .locked ∨ x.tracker.state = .freewheel →
            dropped u t 10 false (fun c => decide (x.release.channels[c].kind = .audio ∧ s.audience a c = 0)) 0
              (s.position a + 265)))
      ∧ (∀ o rest, x.streamer.readies = o :: rest → ∃ t, exec (.streamReadyOpen a) s = .next t ∧ stands t
        ∧ let u := s.setAud a { x with streamer := { x.streamer with readies := rest } }
          (StreamGateOpen x true → t = u.openCheck a none true) ∧ (¬StreamGateOpen x true → t = u))
      ∧ ∀ oldP newP rest, x.streamer.orders = .catchUp oldP newP :: rest → ∃ t,
        exec (.streamCatchUpOrder a) s = .next t ∧ stands t ∧ (t.aud a).streamer.orders = rest
          ∧ ∃ v, dropped (s.setAud a { x with streamer := { x.streamer with orders := rest } }) v 9 true
              (fun c => decide (x.release.channels[c].kind = .audio)) (oldP + 1) (newP + 1)
            ∧ (StreamGateOpen x false → t = v.openCheck a (some (oldP, newP)) false)
            ∧ (¬StreamGateOpen x false → t = v)

/-- An open check of the streamer and what it leaves (R117, R118, R125). With the gate open it takes the judged entries
in window order and opens each READY AUDIO entry that starts at or before P + 480, but one whose leave is on its way
(the model's choice, log 9); any other it passes by. With the gate closed, read as the tracker stands (deduced, log
50), it does nothing. After a local tick, a ready event or a catch-up order, with the gate that each asks for open,
each READY AUDIO entry that was due so is ACTIVE with its cue or has a leave on its way, and a READY AUDIO entry still
due has a leave on its way. -/
def Obligations.DueDescriptionsOpened : Prop :=
  (∀ (s : State) (a : Aud) (range : Option (Nat × Nat)) (testCurrent : Bool),
      (¬StreamGateOpen (s.aud a) testCurrent → s.openCheck a range testCurrent = s)
        ∧ (StreamGateOpen (s.aud a) testCurrent →
          s.openCheck a range testCurrent = (s.aud a).window.judgedOrder.foldl (State.openStep a range) s))
    ∧ (∀ (s : State) (a : Aud) (range : Option (Nat × Nat)) (e : EntryIx),
      let opens := fun c => DueAudio s a e c ∧ (⟨e, c.ordinal⟩ : LeaveEvent) ∉ (s.aud a).window.leaves
      (∀ c, opens c → State.openStep a range s e = s.openCue a e c range)
        ∧ ((∀ c, ¬opens c) → State.openStep a range s e = s))
    ∧ ∀ (a : Aud) (s t : State),
      (StreamGateOpen (s.aud a) true ∧ (exec (.streamTickCheck a) s = .next t
          ∨ ((s.aud a).streamer.readies ≠ [] ∧ exec (.streamReadyOpen a) s = .next t)))
        ∨ (StreamGateOpen (s.aud a) false ∧ exec (.streamCatchUpOrder a) s = .next t
          ∧ ∃ oldP newP rest, (s.aud a).streamer.orders = .catchUp oldP newP :: rest) →
      (∀ e c, DueAudio s a e c → (t.aud a).window.entry e = .judged .active c
          ∨ (⟨e, c.ordinal⟩ : LeaveEvent) ∈ (t.aud a).window.leaves)
        ∧ ∀ e c, DueAudio t a e c → (⟨e, c.ordinal⟩ : LeaveEvent) ∈ (t.aud a).window.leaves

/-- Opening, preemption and completion (R118, R119, R124). A change settled: the complete carriages, with every index
sent or dropped, leave the list and are counted, one that no channel carries any more hands its entry's leave, and the
rest stand in their order; the fetch stays with a carriage that has an index left and passes on from one fetched to
its end (for a list of at most four different cues). A cue opened: it routes to the AUDIO channels of its tracks and
is opened on each in ascending order; "slips" rises by 1 for a catch-up entry and for a catch-up open, an unflagged
start in the order's range, and by 0 otherwise; the entry is ACTIVE where a carriage stands then, and otherwise one
leave is handed, after all its channels (the model's choice, log 9). On a channel, from the first timely index on: an
unflagged cue opened outside a catch-up order counts its skipped packets as late with one AUDIO_LATE (logs 19 and 39:
within the order none, and past the cue's count none); with no packet left the stream is completed; a cue that starts
before the current one is preempted whole; any other preempts: every carriage is cut at the cue's start, what is cut
is counted, those left with nothing complete, of four the oldest ends, and the new carriage joins, with the fetch
where all before it is fetched. -/
def Obligations.DescriptionsOpenedAndPreempted : Prop :=
  (∀ (s : State) (a : Aud) (c : Chan),
    let x := s.stream a c
    let t := s.settleStream a c settleRounds
    (x.cues.map Carriage.ordinal).Nodup → x.cues.length ≤ 4 →
    (t.stream a c).cues = x.cues.filter (fun y => !x.isComplete y) ∧ (t.stream a c).queue = x.queue
      ∧ t.stream a c = x.settled (s.aud a).window
      ∧ (∀ d : Chan, d ≠ c → t.stream a d = s.stream a d)
      ∧ (t.aud a).counters = (s.aud a).counters.set (12 : Fin 16) ((s.aud a).counters[(12 : Fin 16)]
          + BitVec.ofNat 32 (x.cues.filter (fun y => x.isComplete y)).length)
      ∧ (t.aud a).window = { (s.aud a).window with leaves := (s.aud a).window.leaves
          ++ (x.cues.filter (fun y => x.isComplete y
            && (List.finRange 4).all (fun (d : Chan) => decide (d = c)
              || (s.stream a d).cues.all (fun z => decide (z.ordinal ≠ y.ordinal))))).map (fun y =>
                ⟨y.entry, y.ordinal⟩) })
    ∧ (∀ (x : Stream) (y : Carriage), x.isComplete y = true ↔
      y.stop ≤ x.unfetchedFrom y ∧ ∀ p ∈ x.queue, p.ordinal ≠ y.ordinal)
    ∧ (∀ (s : State) (a : Aud) (e : EntryIx) (cue : EntryCue) (range : Option (Nat × Nat)),
      let routes := (s.aud a).release.audioRoutes cue
      let caught := !cue.resumed && !cue.catchUp && (match range with
        | some (q, u) => decide (q < cue.start ∧ cue.start ≤ u)
        | none => false)
      let slips : BitVec 32 := if cue.catchUp || caught then 1 else 0
      let v := routes.foldl (fun s c => s.openOnChannel a e cue range.isSome caught c)
        (s.setAud a { s.aud a with
          counters := (s.aud a).counters.set (1 : Fin 16) ((s.aud a).counters[(1 : Fin 16)] + slips) })
      let carried := ∃ c : Chan, ∃ y ∈ (v.stream a c).cues, y.ordinal = cue.ordinal
      let left := fun (w : State) => (w.aud a).window.leaves.count ⟨e, cue.ordinal⟩
      let t := s.openCue a e cue range
      (∀ c : Chan, c ∈ routes ↔
          (s.aud a).release.channels[c].kind = .audio
            ∧ cue.trackMask.getLsbD (s.aud a).release.channels[c].track.val = true)
        ∧ routes.Pairwise (fun c d => c < d)
        ∧ (routes = [] → t = s.handLeave a e cue.ordinal)
        ∧ (routes ≠ [] → carried → t = v.setAud a { v.aud a with
            window := { (v.aud a).window with entries := (v.aud a).window.entries.set e (.judged .active cue) } })
        ∧ (routes ≠ [] → ¬carried → t = v.handLeave a e cue.ordinal)
        ∧ (routes ≠ [] → (t.aud a).counters[(1 : Fin 16)] = (s.aud a).counters[(1 : Fin 16)] + slips)
        ∧ (routes ≠ [] → (∀ c ∈ routes,
            ((s.stream a c).cues.map Carriage.ordinal).Nodup ∧ (s.stream a c).cues.length ≤ 4
            ∧ cue.ordinal ∉ (s.stream a c).cues.map Carriage.ordinal
            ∧ ∀ o, (s.stream a c).fetch = some o → o ∈ (s.stream a c).cues.map Carriage.ordinal) →
          (carried → left t = left s) ∧ (¬carried → left t = left s + 1)))
    ∧ ∀ (s : State) (a : Aud) (e : EntryIx) (cue : EntryCue) (inOrder catchUpOpen : Bool) (c : Chan),
      let t := s.openOnChannel a e cue inOrder catchUpOpen c
      let x := s.stream a c
      let z := x.cutAll cue.start
      let first := max cue.head ((s.position a + 12 - cue.start + 23) / 24)
      let skipped := min first cue.count - cue.head
      let counts := cue.resumed = false ∧ cue.catchUp = false ∧ inOrder = false ∧ 0 < skipped
      let opened : Carriage :=
        ⟨cue.ordinal, e, cue.start, first, cue.count, cue.flagged || catchUpOpen, decide counts⟩
      let raised := fun (late preempted completed : Nat) =>
        (t.aud a).counters[(9 : Fin 16)] = (s.aud a).counters[(9 : Fin 16)] + BitVec.ofNat 32 late
          ∧ (t.aud a).counters[(11 : Fin 16)] = (s.aud a).counters[(11 : Fin 16)] + BitVec.ofNat 32 preempted
          ∧ (t.aud a).counters[(12 : Fin 16)] = (s.aud a).counters[(12 : Fin 16)] + BitVec.ofNat 32 completed
      let late := if counts then skipped else 0
      t.incidents = (if counts then
          (s.report (Party.slot a) .minor .audioLate none (some cue.ordinal)).incidents else s.incidents)
        ∧ (cue.count ≤ first → raised late 0 1 ∧ (t.aud a).streamer = (s.aud a).streamer)
        ∧ (first < cue.count → x.cues = [] → x.fetch = none →
          raised late 0 0 ∧ (t.stream a c).cues = [opened] ∧ (t.stream a c).fetch = some cue.ordinal
            ∧ (t.stream a c).nextIndex = first ∧ (t.stream a c).queue = x.queue)
        ∧ (∀ y, first < cue.count → x.cues.getLast? = some y → cue.start < y.start →
          raised late (cue.count - first) 1 ∧ (t.aud a).streamer = (s.aud a).streamer)
        ∧ ∀ y, first < cue.count → x.cues.getLast? = some y → y.start ≤ cue.start →
          (x.cues.map Carriage.ordinal).Nodup → x.cues.length ≤ 4 → cue.ordinal ∉ x.cues.map Carriage.ordinal →
          (∀ o, x.fetch = some o → o ∈ x.cues.map Carriage.ordinal) →
          let cut := (x.cues.map (fun y => x.remaining y (y.cut cue.start).stop)).sum
          let left := z.cues.filter (fun y => !z.isComplete y)
          (∀ v ∈ x.cues, (v.cut cue.start).stop = min v.stop ((cue.start - v.start + 23) / 24))
            ∧ z.cues = x.cues.map (fun v => v.cut cue.start)
            ∧ (left.length ≤ 3 → raised late cut (x.cues.length - left.length)
              ∧ (t.stream a c).cues = left ++ [opened] ∧ (t.stream a c).queue = z.queue)
            ∧ (∀ oldest more, left = oldest :: more → 3 ≤ more.length →
              raised late (cut + z.remaining oldest oldest.first) 1
                ∧ (t.stream a c).cues = more ++ [opened]
                ∧ (t.stream a c).queue = z.queue.filter (fun p => decide (p.ordinal ≠ oldest.ordinal)))
            ∧ ((∀ v ∈ x.cues, (v.cut cue.start).stop ≤ z.unfetchedFrom (v.cut cue.start)) →
              (t.stream a c).fetch = some cue.ordinal ∧ (t.stream a c).nextIndex = first)

/-- Fetching ahead (R120, R121): where its conditions hold, TABLE_BATCH_REQUEST asks for the next descriptors of the
fetch carriage, and PACKET_REQUEST puts an AWAITED entry for the next index in the packet queue and asks for its
bytes, or reports one MINOR AUDIO_FAULT for a bad descriptor and skips it; a request enters the queue or joins the
streamer's offer list. Either way the next fetch index moves on by one, and the descriptors below it leave the cache;
the other channels stand. With the carriage's last index fetched so the fetch passes to the carriage behind it, if
any, with the descriptors of its entry's table head, and a carriage with nothing left leaves the list (stated for
lists in which no carriage is complete, and as the settled context for any list of different cues). The gate is read
as the tracker stands (deduced, log 50). Where the conditions do not hold the command changes nothing (the model's
choice, log 2). The addresses of a batch and of a bad descriptor wrap in 64 bits (deduced, log 6). -/
def Obligations.FetchingAheadOfThePosition : Prop :=
  ∀ (a : Aud) (c : Chan) (s : State),
    let x := s.stream a c
    let u := (s.aud a).streamer
    let first := if x.cache = [] then x.nextIndex else x.cacheBase + x.cache.length
    let asked := fun (t : State) (r : Request) =>
      if s.offerResult (Party.slot a) = .entered then
        t.fetch = s.fetch.withEntered r (s.classOf r) ∧ (t.aud a).streamer.offers = u.offers
      else t.fetch = s.fetch ∧ (t.aud a).streamer.offers = u.offers ++ [r]
    let batchDue := fun (y : Carriage) =>
      FetchDue s a c y ∧ x.cache.length ≤ 8 ∧ first < y.stop ∧ x.batchOut = false
    let packetDue := fun (y : Carriage) (d : PacketDesc) =>
      FetchDue s a c y ∧ x.cacheBase ≤ x.nextIndex ∧ x.cache[x.nextIndex - x.cacheBase]? = some d
        ∧ x.queue.length < 12 ∧ u.bufferCount < 24
    let bad := fun (d : PacketDesc) =>
      d.address = 0 ∨ d.address.toNat % 8 ≠ 0 ∨ d.length < 16 ∨ 240 < d.length
    ((∀ y, ¬batchDue y) → exec (.tableBatchRequest a c) s = .next s)
      ∧ (∀ y, batchDue y → ∃ t, exec (.tableBatchRequest a c) s = .next t
        ∧ (t.aud a).streamer.streams = u.streams.set c { x with batchOut := true }
        ∧ asked t (s.cueRequestOf a .audioList (.streamBatch c first) y.ordinal
            ((s.aud a).window.tableOf y.entry + BitVec.ofNat 64 (16 * first))
            (16 * min (16 - x.cache.length) (y.stop - first)) (.batch (y.start + 24 * first)))
        ∧ t.exchange = s.exchange ∧ t.incidents = s.incidents)
      ∧ ((∀ y d, ¬packetDue y d) → exec (.packetRequest a c) s = .next s)
      ∧ ∀ y d, packetDue y d → ∃ t, exec (.packetRequest a c) s = .next t
        ∧ (∀ c' : Chan, c' ≠ c → t.stream a c' = s.stream a c')
        ∧ (CuesApart x → ∃ q,
          t.stream a c = ({ x with
              queue := q, nextIndex := x.nextIndex + 1, cacheBase := x.nextIndex + 1
              cache := x.cache.drop (x.nextIndex + 1 - x.cacheBase) } : Stream).settled (s.aud a).window
            ∧ (bad d → q = x.queue)
            ∧ (¬bad d → ∃ before after, x.queue = before ++ after
              ∧ q = before ++ ⟨y.ordinal, x.nextIndex, y.start + 24 * x.nextIndex, none⟩ :: after
              ∧ (∀ p ∈ before, p.presentation ≤ y.start + 24 * x.nextIndex)
              ∧ ∀ p more, after = p :: more → y.start + 24 * x.nextIndex < p.presentation))
        ∧ ((x.cues.map Carriage.ordinal).Nodup → (∀ z ∈ x.cues, x.isComplete z = false) →
          let stays := (t.stream a c).fetch = x.fetch ∧ (t.stream a c).nextIndex = x.nextIndex + 1
            ∧ (t.stream a c).cacheBase = x.nextIndex + 1
            ∧ (t.stream a c).cache = x.cache.drop (x.nextIndex + 1 - x.cacheBase)
            ∧ (t.stream a c).cues = x.cues
          let empty := bad d ∧ ∀ p ∈ x.queue, p.ordinal ≠ y.ordinal
          (x.nextIndex + 1 < y.stop → stays)
            ∧ (∀ z more, y.stop ≤ x.nextIndex + 1 → x.behindFetch = z :: more → z.first < z.stop →
              (t.stream a c).fetch = some z.ordinal ∧ (t.stream a c).nextIndex = z.first
                ∧ (t.stream a c).cacheBase = z.first
                ∧ (t.stream a c).cache = (s.aud a).window.headFrom z.entry z.ordinal z.first)
            ∧ (y.stop ≤ x.nextIndex + 1 → x.behindFetch = [] → ¬empty → stays)
            ∧ (y.stop ≤ x.nextIndex + 1 → x.behindFetch = [] → empty →
              (t.stream a c).fetch = none ∧ (t.stream a c).nextIndex = 0
                ∧ (t.stream a c).cacheBase = 0 ∧ (t.stream a c).cache = []
                ∧ (t.stream a c).cues = x.cues.filter (fun z => decide (z.ordinal ≠ y.ordinal))))
        ∧ (bad d →
          (t.stream a c).queue = x.queue ∧ (t.aud a).streamer.offers = u.offers
            ∧ t.incidents = (s.report (Party.slot a) .minor .audioFault
                (some ((s.aud a).window.tableOf y.entry + BitVec.ofNat 64 (16 * x.nextIndex)))
                (some y.ordinal)).incidents)
        ∧ (¬bad d →
          ⟨y.ordinal, x.nextIndex, y.start + 24 * x.nextIndex, none⟩ ∈ (t.stream a c).queue
            ∧ (t.stream a c).queue.length = x.queue.length + 1
            ∧ asked t (s.cueRequestOf a .audioPacket (.streamPacket c x.nextIndex) y.ordinal d.address
                d.length (.packet (y.start + 24 * x.nextIndex)))
            ∧ t.exchange = s.exchange ∧ t.incidents = s.incidents)

/-- Packet and table batch reads whose tags stand (R120, R122). A packet's data makes its AWAITED entry HELD; its fault
takes the entry out with one MINOR AUDIO_FAULT, and a carriage complete by it counts as completed and leaves. A batch of the fetch carriage adds its descriptors from the next fetch
index on to the cache; its fault ends the carriage with its packets, with one MAJOR AUDIO_FAULT and no other count (neither "streams completed"
nor a count of dropped packets rises), hands the leave of an entry that no channel carries any more, and passes the
fetch to the next carriage, if any, with the descriptors of its entry's table head. Either way batch outstanding
is clear. A completion that no entry or fetch carriage awaits changes nothing more. A fault comes whatever the timer's
count (the model's choice, logs 1 and 28). -/
def Obligations.StreamReadsArrive : Prop :=
  (∀ (tag : Nat) (s : State) (x : Flight) (a : Aud) (c : Chan) (k : Nat),
    ReadStands s tag x a → x.request.requester = .streamPacket c k →
    let q := s.stream a c
    let mine := fun (p : PacketEntry) => decide (some p.ordinal = x.request.ordinal ∧ p.index = k ∧ p.body = none)
    ((∀ p ∈ q.queue, mine p = false) → ∃ u, ReadGone s u x ∧ Faults tag s u
        ∧ ∀ bytes, bytes.length = x.request.length → exec (.readCompletion tag (.data bytes)) s = .next u)
      ∧ ((∃ p ∈ q.queue, mine p = true) →
        (∀ bytes, bytes.length = x.request.length → ∃ t, exec (.readCompletion tag (.data bytes)) s = .next t
          ∧ t.stream a c = { q with queue := q.queue.map (fun p =>
              if mine p then { p with body := some bytes } else p) }
          ∧ (∀ d, d ≠ c → t.stream a d = s.stream a d) ∧ (t.aud a).counters = (s.aud a).counters
          ∧ (t.aud a).window = (s.aud a).window ∧ t.incidents = s.incidents ∧ t.exchange = s.exchange)
        ∧ ∃ t, Faults tag s t
          ∧ (t.stream a c).queue = q.queue.filter (fun p => !mine p)
          ∧ (CuesApart q →
            let left := { q with queue := q.queue.filter (fun p => !mine p) }
            t.stream a c = left.settled (s.aud a).window
              ∧ (t.aud a).counters = (s.aud a).counters.set (12 : Fin 16)
                ((s.aud a).counters[(12 : Fin 16)] + BitVec.ofNat 32 left.completed.length)
              ∧ (t.aud a).window = { (s.aud a).window with
                  leaves := (s.aud a).window.leaves ++ s.leavesSettling a (fun d => decide (d = c)) (fun _ => left) })
          ∧ (∀ d, d ≠ c → t.stream a d = s.stream a d)
          ∧ t.incidents = (s.report (Party.slot a) .minor .audioFault (some x.request.address)
              x.request.ordinal).incidents))
    ∧ ∀ (tag : Nat) (s : State) (x : Flight) (a : Aud) (c : Chan) (first : Nat),
      ReadStands s tag x a → x.request.requester = .streamBatch c first →
      let q := s.stream a c
      let others := fun (t : State) => ∀ d, d ≠ c → t.stream a d = s.stream a d
      ((∀ y, q.fetchCarriage = some y → x.request.ordinal ≠ some y.ordinal) → ∃ t, Faults tag s t
          ∧ (∀ bytes, bytes.length = x.request.length → exec (.readCompletion tag (.data bytes)) s = .next t)
          ∧ t.stream a c = { q with batchOut := false } ∧ others t
          ∧ (t.aud a).window = (s.aud a).window ∧ t.incidents = s.incidents)
        ∧ ∀ y, q.fetchCarriage = some y → x.request.ordinal = some y.ordinal →
          (∀ bytes, bytes.length = x.request.length → ∃ t, exec (.readCompletion tag (.data bytes)) s = .next t
            ∧ t.stream a c = { q with
                batchOut := false
                cacheBase := if q.cache = [] then max q.nextIndex first else q.cacheBase
                cache := q.cache ++ (readPacketDescs bytes).drop (q.nextIndex - first) }
            ∧ others t ∧ (t.aud a).window = (s.aud a).window ∧ t.incidents = s.incidents)
          ∧ ∃ t, Faults tag s t ∧ others t ∧ (t.stream a c).batchOut = false
            ∧ t.incidents = (s.report (Party.slot a) .major .audioFault (some x.request.address)
                (some y.ordinal)).incidents
            ∧ ((q.cues.map Carriage.ordinal).Nodup → q.cues.length ≤ 4 → (∀ z ∈ q.cues, q.isComplete z = false) →
              (t.stream a c).cues = q.cues.filter (fun z => decide (z.ordinal ≠ y.ordinal))
                ∧ (t.stream a c).queue = q.queue.filter (fun p => decide (p.ordinal ≠ y.ordinal))
                ∧ (t.aud a).counters = (s.aud a).counters
                ∧ (q.behindFetch = [] → (t.stream a c).fetch = none ∧ (t.stream a c).nextIndex = 0
                  ∧ (t.stream a c).cache = [])
                ∧ (∀ z more, q.behindFetch = z :: more → z.first < z.stop →
                  (t.stream a c).fetch = some z.ordinal ∧ (t.stream a c).nextIndex = z.first
                    ∧ (t.stream a c).cacheBase = z.first
                    ∧ (t.stream a c).cache = (s.aud a).window.headFrom z.entry z.ordinal z.first)
                ∧ (t.aud a).window = { (s.aud a).window with leaves := (s.aud a).window.leaves
                    ++ (if ∃ d : Chan, d ≠ c ∧ ∃ z ∈ (s.stream a d).cues, z.ordinal = y.ordinal then []
                      else [⟨y.entry, y.ordinal⟩]) })

/-! ### Lane Controller -/

/-- LANE_FRAME (R134, R136, R137, R138, R146): a lane in OFF does not act; any other puts its held frame on the air and
moves to the next frame number; in FULL, and at each tenth number, it composes and holds a frame of eight frame slots,
the first a beacon of that number with the show state and position of the tracker. The frame of a SPARSE lane carries
beside it up to seven replies, from the front of the reply queue, and nothing else: they leave the queue, each with the
row versions of the channel it names, and the rows of channels that nobody reads leave the dirty list and the
forced-repeat sets. At the other numbers a SPARSE lane holds none and nothing else changes. -/
def Obligations.LaneFrameSendsAndComposes : Prop :=
  (∀ (s : State) (a : Aud) (c : Chan),
      (s.rowsHeard a c = true ↔ (s.aud a).release.channels[c].kind = .text ∧ 0 < s.audience a c)
        ∧ ∀ (r : Reply) (i : RowIx),
          (r.channelArg.toNat = c.val → (s.replyVersions a r)[i] = (s.row a c i).version)
            ∧ (4 ≤ r.channelArg.toNat → (s.replyVersions a r)[i] = 0))
    ∧ ∀ (a : Aud) (s : State),
    let x := s.aud a
    let n := x.lane.frameNumber + 1
    let composes := x.lane.state = .full ∨ n.toNat % 10 = 0
    (x.lane.state = .off → exec (.laneFrame a) s = .next s)
      ∧ (x.lane.state ≠ .off → ∃ t, exec (.laneFrame a) s = .next t
        ∧ (t.aud a).lane.onAir = x.lane.held ∧ (t.aud a).lane.frameNumber = n
        ∧ (¬composes → t = s.setAud a { x with lane := { x.lane with
            onAir := x.lane.held, held := none, frameNumber := n } })
        ∧ (composes → ∃ b slots, (t.aud a).lane.held = some (.beacon b :: slots) ∧ slots.length = 7
          ∧ b.auditorium = a ∧ b.frameNumber = n ∧ b.sparse = decide (x.lane.state = .sparse)
          ∧ b.showState = (match x.tracker.state with
              | .idle => .stopped
              | .acquire => .stopped
              | .locked => .running
              | .freewheel => .running
              | .paused => .paused
              | .held => .held)
          ∧ b.position = (match x.tracker.state with
              | .idle => 0
              | .acquire => 0
              | .locked => min (s.position a + 24) 103679999
              | .freewheel => min (s.position a + 24) 103679999
              | .paused => s.position a
              | .held => s.position a)
          ∧ (∀ c : Chan,
              let d := x.release.channels[c]
              b.channels[c].kind = d.kind ∧ b.channels[c].track = d.track
                ∧ b.channels[c].glyphMode = d.glyphMode ∧ b.channels[c].language = d.language
                ∧ (b.channels[c].active = true ↔ d.kind = .audio ∧ (s.stream a c).cues ≠ []))
          ∧ (x.lane.state = .sparse →
              slots = (x.lane.replies.take 7).map (fun r => .reply r (s.replyVersions a r))
                  ++ List.replicate (7 - x.lane.replies.length) .empty
                ∧ (t.aud a).lane = { x.lane with
                    onAir := x.lane.held, held := some (.beacon b :: slots), frameNumber := n
                    replies := x.lane.replies.drop 7
                    dirty := x.lane.dirty.filter (fun y => s.rowsHeard a y.1)
                    forced := (t.aud a).lane.forced }
                ∧ ∀ (c : Chan) (r : RowIx),
                  (t.aud a).lane.forced[c][r] = (x.lane.forced[c][r] && s.rowsHeard a c)))
        ∧ (t.aud a).tracker = x.tracker ∧ (t.aud a).state = x.state
        ∧ (t.aud a).release = x.release ∧ (∀ b, b ≠ a → t.aud b = s.aud b)
        ∧ t.regs = s.regs ∧ t.pool = s.pool ∧ t.devices = s.devices ∧ t.pending = s.pending)

/-- The frame a lane composes, in FULL or at a tenth number in SPARSE (R119, R123, R124, R126, R137, R139, R141, R143,
R144, R145, R146). In FULL its seven frame slots are filled level by level: packets in two rounds over the channels,
changed rows oldest first, replies, rows to repeat in ascending order, and rows of the refresh rotation; in SPARSE
with replies alone; the lane's lists, sets and cursor follow. Either way, on the channels where the streamer composes,
by the show state and the gate of the event (deduced, log 50), the late packets and unfetched indices are dropped and
counted, and each carriage that loses one makes one MINOR AUDIO_LATE unless it is quiet or reported already, by
ascending channel and in the order of the cue list (the model's choice, log 47); a channel with no audience is swept
as unheard; a carriage to which the fetch passes so loses none of its unfetched indices in that event (the model's
choice, log 52); and the packets placed leave their queues, count as sent and end their carriages' quiet. After its
drop or sweep, and after each packet placed, a channel settles: the next fetch index stands past the indices lost, the
complete carriages are gone, counted and, with no other channel carrying them, left, and the fetch has passed on from
a carriage fetched to its end. The context that this leaves is stated for cue lists of different cues with no packet
of one behind the fetch (`CuesStayApart`). -/
def Obligations.FramesFilledByLevel : Prop :=
  ∀ (a : Aud) (s : State),
    (s.aud a).lane.state = .full
      ∨ ((s.aud a).lane.state = .sparse ∧ ((s.aud a).lane.frameNumber + 1).toNat % 10 = 0) →
    let f := if (s.aud a).lane.state = .full then s.framePlan a else s.sparsePlan a
    let b := beaconPosition (s.aud a).tracker
    let heard := fun (c : Chan) => s.composes a c && decide (0 < s.audience a c)
    let unheard := fun (c : Chan) => s.composes a c && decide (s.audience a c = 0)
    let count := fun (t : State) (k : Fin 16) (n : Nat) =>
      (t.aud a).counters[k] = (s.aud a).counters[k] + BitVec.ofNat 32 n
    ∃ t beacon, exec (.laneFrame a) s = .next t
      ∧ (t.aud a).lane = s.planLane a f (.beacon beacon :: f.slots s a) ∧ (f.slots s a).length = 7
      ∧ (∀ c : Chan,
          (heard c = true → (t.stream a c).queue = (s.stream a c).queue.filter (fun p =>
            decide (b + 12 ≤ p.presentation)
              && !f.packets.any (fun y => decide (y.1 = c ∧ y.2.ordinal = p.ordinal ∧ y.2.index = p.index))))
          ∧ (unheard c = true → (t.stream a c).queue = (s.stream a c).queue.filter (fun p =>
            decide (b + 240 < p.presentation)))
          ∧ (s.composes a c = false → t.stream a c = s.stream a c))
      ∧ count t 8 f.packets.length
      ∧ count t 9 (overChannels (fun c => if heard c then (s.stream a c).lostIn 0 (b + 12) else 0))
      ∧ count t 10 (overChannels (fun c => if unheard c then (s.stream a c).lostIn 0 (b + 241) else 0))
      ∧ (∀ k : Fin 16, k ≠ 8 → k ≠ 9 → k ≠ 10 → k ≠ 12 → (t.aud a).counters[k] = (s.aud a).counters[k])
      ∧ t.incidents = (s.audioLate a heard 0 (b + 12)).incidents
      ∧ (∀ c : Chan, s.composes a c = true → ∀ y ∈ (t.stream a c).cues, ∃ z ∈ (s.stream a c).cues, y = { z with
          lateReported := z.lateReported || (heard c
            && ((s.stream a c).reportedIn 0 (b + 12)).any (fun v => decide (v.ordinal = z.ordinal)))
          quiet := z.quiet && !f.packets.any (fun w => decide (w.1 = c ∧ w.2.ordinal = z.ordinal)) })
      ∧ (∃ more, (t.aud a).window = { (s.aud a).window with leaves := (s.aud a).window.leaves ++ more })
      ∧ (let u := f.packets.foldl (fun v y => v.channelSends a y) ((List.finRange 4).foldl (fun v c =>
            if heard c then v.channelLoss a 9 true 0 (b + 12) c
            else if unheard c then v.channelLoss a 10 false 0 (b + 241) c else v) s)
        t = u.setAud a { u.aud a with lane := (t.aud a).lane })
      ∧ ((∀ c : Chan, s.composes a c = true → CuesApart (s.stream a c)
            ∧ ∀ z ∈ (s.stream a c).behindFetch, ∀ p ∈ (s.stream a c).queue, p.ordinal ≠ z.ordinal) →
        let after := fun (c : Chan) => (f.packets.filter (fun w => decide (w.1 = c))).foldl
          (fun x w => x.afterSending w.2)
          ((s.stream a c).afterLoss (heard c) 0 (if heard c then b + 12 else b + 241))
        let carried := fun (o : Nat) => ∃ c : Chan, ∃ y ∈ (t.stream a c).cues, y.ordinal = o
        (∀ c : Chan, s.composes a c = true → t.stream a c = (after c).settled (s.aud a).window)
          ∧ count t 12 (overChannels (fun c => if s.composes a c then (after c).completed.length else 0))
          ∧ ∀ more, (t.aud a).window.leaves = (s.aud a).window.leaves ++ more →
            (∀ l ∈ more, ¬carried l.ordinal ∧ ∃ c : Chan, s.composes a c = true
              ∧ ∃ y ∈ (after c).completed, l = ⟨y.entry, y.ordinal⟩)
            ∧ ∀ (c : Chan) (y : Carriage), s.composes a c = true → y ∈ (after c).completed → ¬carried y.ordinal →
              (more.filter (fun l => decide (l.ordinal = y.ordinal))).length = 1)

/-- What a frame slot's 256 bytes, a slot's host half and the programme's records say, field by field (R93, R171,
R190): the frame slots EMPTY, BEACON, ROW, AUDIO and REPLY with their kind in byte 0; the fields of a request as taken,
before any clamp, with a state code that names none taken as STANDBY and a kind code that names none as OFF; and the
fields of a segment descriptor, a cue record, the packet descriptors of an AUDIO_LIST read, 16 bytes each, and the host
cells of a TEXT read, two bytes each. -/
def Obligations.FrameAndRequestLayouts : Prop :=
  ((FrameSlot.bytes .empty).length = 256 ∧ ∀ k, byteAt (FrameSlot.bytes .empty) k = 0)
    ∧ (∀ b : Beacon,
      let h := FrameSlot.bytes (.beacon b)
      h.length = 256 ∧ leNat h 0 1 = 1 ∧ leNat h 1 1 = b.auditorium.val ∧ leNat h 2 2 = b.frameNumber.toNat
        ∧ leNat h 4 1 = (match b.showState with
            | .stopped => 0
            | .running => 1
            | .paused => 2
            | .held => 3)
        ∧ leNat h 5 1 = (if b.sparse then 1 else 0) ∧ leNat h 6 2 = 0 ∧ leNat h 8 4 = b.position % 4294967296
        ∧ ∀ c : Chan,
          leNat h (12 + 8 * c.val) 1 = (match b.channels[c].kind with
              | .off => 0
              | .text => 1
              | .audio => 2)
            ∧ leNat h (13 + 8 * c.val) 1 = b.channels[c].track.val
            ∧ leNat h (14 + 8 * c.val) 1 = (if b.channels[c].glyphMode = .g512 then 1 else 0)
            ∧ leNat h (15 + 8 * c.val) 1 = (if b.channels[c].active then 1 else 0)
            ∧ leNat h (16 + 8 * c.val) 3 = b.channels[c].language.toNat)
    ∧ (∀ (c : Chan) (r : RowIx) (version : BitVec 8) (cells : Vector Cell 40),
      let h := FrameSlot.bytes (.row c r version cells)
      h.length = 256 ∧ leNat h 0 1 = 2 ∧ leNat h 1 1 = c.val ∧ leNat h 2 1 = r.val ∧ leNat h 3 1 = version.toNat
        ∧ ∀ k : Fin 40,
          leNat h (4 + 3 * k.val) 1 = cells[k].glyph.toNat % 256
            ∧ leNat h (5 + 3 * k.val) 1 = cells[k].glyph.toNat / 256 + (if cells[k].flash then 2 else 0)
            ∧ leNat h (6 + 3 * k.val) 1 = cells[k].fg.toNat + 16 * cells[k].bg.toNat)
    ∧ (∀ (c : Chan) (ordinal : BitVec 16) (index presentation : Nat) (bytes : List Byte), bytes.length ≤ 240 →
      let h := FrameSlot.bytes (.audio c ordinal index presentation bytes)
      h.length = 256 ∧ leNat h 0 1 = 3 ∧ leNat h 1 1 = c.val ∧ leNat h 2 2 = ordinal.toNat
        ∧ leNat h 4 2 = index % 65536 ∧ leNat h 6 1 = bytes.length ∧ leNat h 8 4 = presentation % 4294967296
        ∧ (h.drop 12).take bytes.length = bytes)
    ∧ (∀ (r : Reply) (versions : Vector (BitVec 8) 4),
      let h := FrameSlot.bytes (.reply r versions)
      h.length = 256 ∧ leNat h 0 1 = 4
        ∧ leNat h 1 1 = (match r.result with
            | .accepted => 1
            | .channelClosed => 2
            | .tableFull => 3)
        ∧ byteAt h 2 = r.channelArg ∧ leNat h 4 4 = r.device.toNat
        ∧ ∀ i : Fin 4, byteAt h (8 + i.val) = versions[i])
    ∧ (∀ bytes : List Byte,
      let d := readSegmentDesc bytes
      let r := readCueRecord bytes
      d.address.toNat = leNat bytes 0 8 ∧ d.count = leNat bytes 8 2 ∧ d.firstStart = leNat bytes 12 4
        ∧ d.lastStart = leNat bytes 16 4
        ∧ r.start = leNat bytes 0 4 ∧ r.duration = leNat bytes 4 2
        ∧ r.kind = (match leNat bytes 6 1 with
            | 1 => some .text
            | 2 => some .clear
            | 3 => some .audio
            | _ => none)
        ∧ r.trackMask.toNat = leNat bytes 7 1 % 16 ∧ r.classFlags.toNat = leNat bytes 8 1 % 16
        ∧ r.firstRow.val = leNat bytes 9 1 % 4 ∧ r.lines = leNat bytes 10 1 % 8
        ∧ r.count = leNat bytes 12 2 ∧ r.reference.toNat = leNat bytes 16 8
        ∧ (readPacketDescs bytes).length = bytes.length / 16 ∧ (readHostCells bytes).length = bytes.length / 2
        ∧ (∀ k d, (readPacketDescs bytes)[k]? = some d →
            d.address.toNat = leNat bytes (16 * k) 8 ∧ d.length = leNat bytes (16 * k + 8) 2)
        ∧ ∀ k h, (readHostCells bytes)[k]? = some h →
            h.code = byteAt bytes (2 * k) ∧ h.attr = byteAt bytes (2 * k + 1))
    ∧ ∀ half : List Byte,
      let r := readSlotRequest half
      r.generation.toNat = leNat half 0 4
        ∧ r.requested = (match leNat half 4 1 with
            | 0 => .off
            | 2 => .show
            | _ => .standby)
        ∧ (r.stateBad = true ↔ 2 < leNat half 4 1)
        ∧ r.editRate = leNat half 5 1 ∧ r.segmentCount = leNat half 6 1 ∧ r.reference.toNat = leNat half 8 8
        ∧ r.tcOffset = (if leNat half 0x10 2 < 32768 then (leNat half 0x10 2 : Int) else leNat half 0x10 2 - 65536)
        ∧ r.freewheelLimit = leNat half 0x12 2 ∧ r.catchUpLimit = leNat half 0x14 2
        ∧ r.keepBack = leNat half 0x18 4 ∧ r.acknowledge.toNat = leNat half 0x1C 2
        ∧ ∀ c : Chan,
          let d := r.channels[c]
          let byte := fun k => leNat half (0x20 + 16 * c.val + k) 1
          d.kind = (match byte 0 with
              | 1 => .text
              | 2 => .audio
              | _ => .off)
            ∧ (r.kindBad[c] = true ↔ 2 < byte 0) ∧ d.track.val = byte 1 % 4
            ∧ d.classMatch.toNat = byte 2 % 16 ∧ d.classCare.toNat = byte 3 % 16
            ∧ (d.glyphMode = .g512 ↔ byte 4 % 2 = 1)
            ∧ (d.fgEnable = true ↔ byte 5 % 2 = 1) ∧ (d.bgEnable = true ↔ byte 5 / 2 % 2 = 1)
            ∧ (d.flashEnable = true ↔ byte 5 / 4 % 2 = 1)
            ∧ d.fgValue.toNat = byte 6 % 16 ∧ d.bgValue.toNat = byte 7 % 8 ∧ (d.flashValue = true ↔ byte 8 % 2 = 1)
            ∧ d.language.toNat = byte 9 + 256 * byte 10 + 65536 * byte 11

/-- LANE_SWEEP and UPLINK_ARRIVAL (R134, R135, R147, R149): a lane in OFF acts on neither. A sweep in FULL counts
towards SPARSE while the auditorium has no audience, thirty sweeps giving SPARSE, and a set overflow flag reports one
UPLINK_OVERFLOW and is cleared. A message with a bad check, id or kind is discarded and counted, as is one that finds
eight in the intake, which sets the overflow flag; any other joins the intake. -/
def Obligations.SweepAndIntake : Prop :=
  ∀ (a : Aud) (s : State),
    let x := s.aud a
    let audience := s.audience a 0 + s.audience a 1 + s.audience a 2 + s.audience a 3
    let counted := x.counters.set (13 : Fin 16) (x.counters[(13 : Fin 16)] + 1)
    (x.lane.state = .off → exec (.laneSweep a) s = .next s ∧ ∀ m, exec (.uplinkArrival a m) s = .next s)
      ∧ (x.lane.state ≠ .off → ∃ lane,
        lane = (if x.lane.state = .full then
            if audience = 0 then
              if 30 ≤ x.lane.zeroAudience + 1 then { x.lane with state := .sparse, zeroAudience := 0 }
              else { x.lane with zeroAudience := x.lane.zeroAudience + 1 }
            else { x.lane with zeroAudience := 0 }
          else x.lane)
          ∧ (x.lane.overflow = false →
            exec (.laneSweep a) s = .next (s.setAud a { x with lane := lane }))
          ∧ (x.lane.overflow = true →
            exec (.laneSweep a) s = .next ((s.setAud a { x with
              lane := { lane with overflow := false } }).report (Party.slot a) .minor .uplinkOverflow none none)))
      ∧ ∀ m : Vector Byte 8, x.lane.state ≠ .off →
        let id := m[0].toNat + 256 * m[1].toNat + 65536 * m[2].toNat + 16777216 * m[3].toNat
        let bad := m[7] ≠ m[0] + m[1] + m[2] + m[3] + m[4] + m[5] + m[6] ∨ id = 0 ∨ id = 0xFFFFFFFF
          ∨ m[4] = 0 ∨ 4 < m[4].toNat
        (bad → exec (.uplinkArrival a m) s = .next (s.setAud a { x with counters := counted }))
          ∧ (¬bad → 8 ≤ x.lane.intake.length →
            exec (.uplinkArrival a m) s = .next (s.setAud a { x with
              counters := counted, lane := { x.lane with overflow := true } }))
          ∧ (¬bad → x.lane.intake.length < 8 → ∃ u : UplinkMessage,
            u.device.toNat = id ∧ u.channelArg = m[5]
              ∧ some u.kind = [UplinkKind.join, .alive, .repeatRows, .leave][m[4].toNat - 1]?
              ∧ exec (.uplinkArrival a m) s = .next (s.setAud a { x with
                  lane := { x.lane with intake := x.lane.intake ++ [u] } }))

/-! ### Device Table -/

/-- JOIN (R155 to R159): where the next message by the arbiter is a JOIN of a lane that runs, it is taken. On a closed
channel it gets CHANNEL_CLOSED and no entry changes. On an open channel a known device's entry moves, an unknown one
takes the lowest FREE entry or, with none, the lowest of the QUIET entries of greatest silence; with none of those it
gets TABLE_FULL and one DEVICE_TABLE_FULL is reported. -/
def Obligations.JoinTakesAnEntry : Prop :=
  ∀ s : State,
    ∀ a m, s.nextMessage = some (a, m) → m.kind = .join → (s.aud a).lane.state ≠ .off →
        let u := s.messageTaken a
        ∃ t, exec .join s = .next t ∧ (DevicesOk s.devices → DevicesOk t.devices)
          ∧ ((∀ c, ¬ChannelOpen s a m c) →
            ReplyHanded (u.aud a) (t.aud a) ⟨m.device, .channelClosed, m.channelArg⟩
              ∧ t = u.setAud a { u.aud a with
                  lane := { (u.aud a).lane with replies := (t.aud a).lane.replies }
                  counters := (t.aud a).counters })
          ∧ ∀ c, ChannelOpen s a m c →
            (∀ (i : Fin 1024) (d : Device), EntryOf s m.device i d →
              (∀ (j : Fin 1024) (e : Device), EntryOf s m.device j e → i ≤ j) → JoinAccepted u t a c m i)
            ∧ ((∀ (i : Fin 1024) (d : Device), ¬EntryOf s m.device i d) →
              (∀ i : Fin 1024, s.devices.entries[i] = none →
                (∀ j : Fin 1024, s.devices.entries[j] = none → i ≤ j) → JoinAccepted u t a c m i)
              ∧ ((∀ i : Fin 1024, s.devices.entries[i] ≠ none) →
                (∀ (i : Fin 1024) (d : Device), s.devices.entries[i] = some d → d.status ≠ .active →
                  (∀ (j : Fin 1024) (e : Device), s.devices.entries[j] = some e → e.status ≠ .active →
                    e.silence < d.silence ∨ (e.silence = d.silence ∧ i ≤ j)) →
                  JoinAccepted u t a c m i)
                ∧ ((∀ (i : Fin 1024) (d : Device), s.devices.entries[i] = some d → d.status = .active) →
                  ∃ v : State, v = u.setAud a { u.aud a with
                      lane := { (u.aud a).lane with replies := (v.aud a).lane.replies }
                      counters := (v.aud a).counters }
                    ∧ ReplyHanded (u.aud a) (v.aud a) ⟨m.device, .tableFull, m.channelArg⟩
                      ∧ t = v.report (Party.slot a) .minor .deviceTableFull none none)))

/-- ALIVE, REPEAT, LEAVE and DEVICE_SWEEP (R155, R160 to R164): a message of a known device on its own lane sets its
silence to 0, and makes a QUIET entry whose cause is SILENT ACTIVE again; a REPEAT also asks for the channel's rows
unless the cause is CLOSED; a LEAVE frees the entry; any other such message is stray and counted, and changes nothing
else. At the sweep each entry's silence rises by one second, saturating; an entry that meets the release threshold is
freed, an ACTIVE one that meets the quiet threshold becomes QUIET with cause SILENT; in a table whose counts are right
they stay right, and nothing else changes. -/
def Obligations.KnownDevicesHeardAndAged : Prop :=
  (∀ (s : State) (a : Aud) (m : UplinkMessage),
    DevicesOk s.devices → s.nextMessage = some (a, m) → (s.aud a).lane.state ≠ .off →
    let u := s.messageTaken a
    let stray := u.setAud a { u.aud a with
      counters := (u.aud a).counters.set (14 : Fin 16) ((u.aud a).counters[(14 : Fin 16)] + 1) }
    ((∀ i d, EntryOf s m.device i d → d.auditorium ≠ a) →
        (m.kind = .alive → exec .alive s = .next stray)
          ∧ (m.kind = .repeatRows → exec .repeatRows s = .next stray)
          ∧ (m.kind = .leave → exec .leave s = .next stray))
      ∧ ∀ i d, EntryOf s m.device i d → d.auditorium = a →
        let d' := { d with silence := 0, status := if d.status = .quietSilent then .active else d.status }
        let active := d.status = .quietSilent
        let returned := if active then
          { (u.aud a).lane with state := .full, zeroAudience := 0 } else (u.aud a).lane
        let entered := fun (t : State) (entry : Option Device) =>
          DevicesOk t.devices ∧ t.devices = { u.devices with
            entries := s.devices.entries.set i entry, audience := t.devices.audience }
        (m.kind = .alive → ∃ t, exec .alive s = .next t ∧ entered t (some d')
          ∧ t = { u.setAud a { u.aud a with lane := returned } with devices := t.devices })
        ∧ (m.kind = .repeatRows → ∃ t, exec .repeatRows s = .next t ∧ entered t (some d')
          ∧ t = { u.setAud a { u.aud a with lane := { returned with
              forced := if d.status = .quietClosed then (u.aud a).lane.forced
                else (u.aud a).lane.forced.set d.channel (Vector.replicate 4 true) } } with
              devices := t.devices })
        ∧ (m.kind = .leave → ∃ t, exec .leave s = .next t ∧ entered t none
          ∧ t = { u with devices := t.devices }))
    ∧ ∀ s : State, ∃ t, exec .deviceSweep s = .next t
    ∧ (∀ i : Fin 1024, t.devices.entries[i] = (match s.devices.entries[i] with
        | none => none
        | some d =>
          let n := min (d.silence + 1) 65535
          if s.devices.releaseThreshold ≤ n then none
          else some { d with
            silence := n
            status := if d.status = .active ∧ s.devices.quietThreshold ≤ n then .quietSilent else d.status }))
    ∧ t = { s with devices := { s.devices with
        entries := t.devices.entries, audience := t.devices.audience } }
    ∧ ((∀ (a : Aud) (c : Chan), s.devices.audience[a][c] = s.devices.activeOn a c) →
      ∀ (a : Aud) (c : Chan), t.devices.audience[a][c] = t.devices.activeOn a c)

/-! ### Auditorium Lifecycle -/

/-- An attach, the entry to CLOSING and its end (R45, R48, R79, R84, R112, R129, R173, R174, R176). An attach moves
the attach generation on, gives the programme context, tracker, window, release context and streamer their values at
attach and asks for the first batch. The entry to CLOSING moves it on too, removes the queued programme requests with
a departure for each, which the blocks that hold a refused request are told of, flushes the window, pages and streams,
stops the tracker, closes the programme context and holds the request; the drained event is handed at once where no
programme read is in flight. The departures are handed after the auditorium's own lists are emptied, so that its own
window, programme context and streamer are told of none of them (deduced, log 33). At both points departure events
handed and not taken stay (the model's choice, log 46), and so do the orders and ready events of the Release Unit and
the streamer (log 11). That the move and the emptied table come before a batch's completion taken later is R50's and
R89's reading against row 6 of R179 (deduced, log 53). DRAINED outside CLOSING is only used up. In CLOSING the mark
becomes N with one notice reason, the auditorium is in STANDBY, and the pending request is applied there: it ends in
the state asked for, with one report of the change. -/
def Obligations.ShowsAttachAndClose : Prop :=
  (∀ (s : State) (a : Aud) (r : SlotRequest),
    let x := s.aud a
    let emptied := fun (st : WindowState) (w : Window) => (∀ e : EntryIx, w.entry e = .free)
      ∧ w = {
          state := st, entries := w.entries, cursor := none, rePlacing := false, resumeBound := none, search := none
          offers := [], poolWait := [], readyTaken := false, readyEvent := false, orders := [], leaves := []
          departures := x.window.departures }
    let freed := fun (t : State) => (∀ e : EntryIx, ∀ b ∈ (x.window.entry e).blocks, t.pool.blocks[b].holder = none)
      ∧ ((∀ e : EntryIx, (x.window.entry e).blocks = []) → t.pool = s.pool)
    let gen := s.fetch.attachGen[a] + 1
    let t := s.attach a r
    let batch : Request := {
      party := Party.slot a, purpose := .segmentDesc, requester := .programme, ordinal := none
      attachTag := some gen, seekTag := none, epochTag := s.fetch.runEpoch, address := r.reference
      length := 32 * min 16 r.segmentCount, terms := .fixed 1 }
    let asked := s.offerResult (Party.slot a) = .entered
    let v := s.enterClosing a r
    let mine := fun (q : QueuedRequest) =>
      q.request.attachTag.isSome && decide (q.request.party = Party.slot a)
    let told := List.replicate (s.fetch.queue.filter mine).length (Party.slot a)
    (emptied .waiting (t.aud a).window ∧ freed t
        ∧ t.fetch = { (if asked then s.fetch.withEntered batch 1 else s.fetch) with
            attachGen := s.fetch.attachGen.set a gen }
        ∧ t.aud a = { x with
            state := .show, pendingRequest := none, window := (t.aud a).window
            programme := { x.programme with
              tableState := .loading, reference := r.reference, segmentCount := r.segmentCount
              editRate := r.editRate, table := [], loadCursor := 0
              batch := if asked then .outstanding else .waiting batch
              retireMark := 0, orderFloor := none, readyHanded := false }
            tracker := { x.tracker with
              state := .idle, est := ⟨0, 0⟩, trim := 0, agree := 1, lastTc := none, repeats := 0
              lossTimer := none, holdTimer := none }
            release := { x.release with
              releasePoint := 0, takenGen := x.tracker.seekGen, windowGen := x.tracker.seekGen, leaving := [] }
            streamer := { x.streamer with
              streams := Vector.replicate 4 Stream.reset, bufferCount := 0, offers := []
              takenGen := x.tracker.seekGen, windowGen := x.tracker.seekGen } }
        ∧ t = { s.setAud a (t.aud a) with fetch := t.fetch, pool := t.pool })
      ∧ emptied .stopped (v.aud a).window ∧ freed v
        ∧ TextPagesBlanked x (v.aud a) ∧ (v.aud a).lane = x.lane.dirtied x.textRows
        ∧ v.aud a = { x with
            state := .closing, pendingRequest := some r, window := (v.aud a).window, lane := (v.aud a).lane
            programme := { x.programme with
              tableState := .empty, table := [], loadCursor := 0, batch := .none, orderFloor := none }
            tracker := { x.tracker with
              state := .idle, agree := 1, lastTc := none, repeats := 0, lossTimer := none, holdTimer := none }
            release := { x.release with pages := (v.aud a).release.pages, leaving := [] }
            streamer := { x.streamer with
              streams := Vector.replicate 4 Stream.reset, bufferCount := 0, offers := [] } }
        ∧ (∀ b, b ≠ a → v.aud b = { s.aud b with
            window := { (s.aud b).window with
              departures := (s.aud b).window.departures ++ (if (s.aud b).window.offers = [] then [] else told) }
            programme := { (s.aud b).programme with
              departures := (s.aud b).programme.departures ++ (match (s.aud b).programme.batch with
                | .waiting _ => told
                | _ => []) }
            streamer := { (s.aud b).streamer with
              departures := (s.aud b).streamer.departures
                ++ (if (s.aud b).streamer.offers = [] then [] else told) } })
        ∧ v.exchange = { s.exchange with
            departures := s.exchange.departures ++ (if s.exchange.offers = [] then [] else told) }
        ∧ v.fetch = { s.fetch with
            attachGen := s.fetch.attachGen.set a gen
            queue := s.fetch.queue.filter (fun q => !mine q)
            queuedCount := s.fetch.queuedCount.set (Party.slot a)
              (s.fetch.queuedCount[Party.slot a] - told.length)
            drained := if s.fetch.programmeReads[a] = 0 then s.fetch.drained.set a true else s.fetch.drained }
        ∧ v = { s with auds := v.auds, fetch := v.fetch, pool := v.pool, exchange := v.exchange })
    ∧ ∀ (a : Aud) (s : State),
      let u := { s with fetch := { s.fetch with drained := s.fetch.drained.set a false } }
      let p := (s.aud a).programme
      (s.fetch.drained[a] = true → (s.aud a).state ≠ .closing → exec (.drained a) s = .next u)
        ∧ (s.fetch.drained[a] = true → (s.aud a).state = .closing →
          let m := (u.setAud a { s.aud a with programme := { p with
              tableState := .empty, table := [], loadCursor := 0, batch := .none, orderFloor := none
              retireMark := p.segmentCount } }).raiseReason (Party.slot a)
          let v := m.setAud a { m.aud a with state := .standby, pendingRequest := none }
          ∃ t, exec (.drained a) s = .next (t.raiseReason (Party.slot a))
            ∧ (∀ b, b ≠ a → (t.raiseReason (Party.slot a)).aud b = s.aud b)
            ∧ ((t.raiseReason (Party.slot a)).party (Party.slot a)).noticesOwed = true
            ∧ ((t.raiseReason (Party.slot a)).party (Party.slot a)).mirrorWrite ≠ .none
            ∧ ((s.aud a).pendingRequest = none → t = v)
            ∧ ∀ r, (s.aud a).pendingRequest = some r →
              let w := (v.takeParameters a r).takeDescriptors a r
              (t.aud a).pendingRequest = none ∧ t.fetch.drained[a] = false
                ∧ (match r.requested with
                  | .off => t = w.enterOff a ∧ (t.aud a).state = .off ∧ (t.aud a).lane = Lane.reset
                      ∧ (t.aud a).programme.retireMark = p.segmentCount
                  | .standby => t = w ∧ (t.aud a).state = .standby
                      ∧ (t.aud a).programme.retireMark = p.segmentCount
                  | .show => t = w.attach a r ∧ (t.aud a).state = .show
                      ∧ t.fetch.attachGen[a] = s.fetch.attachGen[a] + 1
                      ∧ (t.aud a).programme.retireMark = 0 ∧ (t.aud a).programme.reference = r.reference
                      ∧ (t.aud a).window.state = .waiting))

/-- What a request gives outside CLOSING, and the passages between OFF and STANDBY (R4, R47, R93, R113, R130, R165,
R172, R177, R178). The three parameters and keep-back are held in their ranges with one CONFIG_CLAMPED for each value
changed. The four channel descriptors are taken, one CONFIG_CLAMPED for each kind code that names none. On a channel
where more than the language changes every row is blanked, dirty only where the new kind is TEXT, and its forced-repeat
set is cleared; its stream context is emptied where the old or new kind is AUDIO, a batch still out staying out
(deduced, log 10), with a leave for each entry that no channel carries then; where the kind changes its devices are
QUIET with cause CLOSED. Nothing else changes. OFF to STANDBY starts the lane in SPARSE and the mirror timer and takes
the descriptors; the entry into OFF ends the lane, frees the devices, makes every kind OFF and stops the timer. -/
def Obligations.RequestsReconfigureChannels : Prop :=
  (∀ (s : State) (a : Aud) (r : SlotRequest),
    let x := s.aud a
    let clamps := fun (s : State) (changed : List Bool) => changed.foldl (fun v b => v.reportClamp a b) s
    let offset := max (-600) (min 600 r.tcOffset)
    let freewheel := min r.freewheelLimit 4800
    let catchUp := max 24 (min 1200 r.catchUpLimit)
    let keepBack := min r.keepBack 432000
    let t := s.takeDescriptors a r
    let old : Chan → ChannelDescriptor := fun c => x.release.channels[c]
    let new : Chan → ChannelDescriptor := fun c => r.channels[c]
    let changed := fun (c : Chan) =>
      decide (({ old c with language := 0 } : ChannelDescriptor) ≠ { new c with language := 0 })
    let audio := fun (c : Chan) => changed c && decide ((old c).kind = .audio ∨ (new c).kind = .audio)
    let told := clamps s ((List.finRange 4).map (fun (c : Chan) => r.kindBad[c]))
    (∀ v : State, v.reportClamp a false = v
        ∧ v.reportClamp a true = v.report (Party.slot a) .minor .configClamped none none)
      ∧ s.takeParameters a r = (clamps s [decide (offset ≠ r.tcOffset), decide (freewheel ≠ r.freewheelLimit),
          decide (catchUp ≠ r.catchUpLimit), decide (keepBack ≠ r.keepBack)]).setAud a { x with
            tracker := { x.tracker with tcOffset := offset, freewheelLimit := freewheel, catchUpLimit := catchUp }
            programme := { x.programme with keepBack := keepBack } }
      ∧ (∀ (c : Chan) (i : RowIx), t.row a c i = if changed c then (s.row a c i).blanked else s.row a c i)
      ∧ (∀ c : Chan, t.stream a c = if audio c then { Stream.reset with batchOut := (s.stream a c).batchOut }
          else s.stream a c)
      ∧ ((∀ c : Chan, audio c = false) → (t.aud a).streamer = x.streamer)
      ∧ t.aud a = { x with
          release := { x.release with channels := r.channels, pages := (t.aud a).release.pages }
          lane := { x.lane.dirtied ((List.finRange 4).flatMap (fun c =>
              if changed c && decide ((new c).kind = .text) then (List.finRange 4).map (fun i => (c, i)) else []))
            with forced := vofFn (fun c =>
              if changed c && decide (x.lane.state ≠ .off) then Vector.replicate 4 false else x.lane.forced[c]) }
          streamer := { x.streamer with
            streams := (t.aud a).streamer.streams, bufferCount := (t.aud a).streamer.bufferCount }
          window := { x.window with leaves := x.window.leaves ++ (List.finRange 4).flatMap (fun (c : Chan) =>
            if audio c then ((s.stream a c).cues.filter (fun y => (List.finRange 4).all (fun (d : Chan) =>
              decide (d = c) || (audio d && decide (d < c))
                || (s.stream a d).cues.all (fun z => decide (z.ordinal ≠ y.ordinal))))).map (fun y =>
                  ⟨y.entry, y.ordinal⟩)
            else []) } }
      ∧ (∀ i : Fin 1024, t.devices.entries[i] = (match s.devices.entries[i] with
          | none => none
          | some d => some (if d.auditorium = a ∧ (old d.channel).kind ≠ (new d.channel).kind then
              { d with status := .quietClosed } else d)))
      ∧ (DevicesOk s.devices → DevicesOk t.devices)
      ∧ t = { told.setAud a (t.aud a) with
          devices := { s.devices with entries := t.devices.entries, audience := t.devices.audience } })
    ∧ (∀ (s : State) (a : Aud) (r : SlotRequest),
      s.offToStandby a r = ((s.setAud a { s.aud a with
          state := .standby, pendingRequest := none, lane := { Lane.reset with state := .sparse } }).updParty
            (Party.slot a) (fun y => { y with mirrorTimer := some 0 })).takeDescriptors a r)
    ∧ ∀ (s : State) (a : Aud),
      let x := s.aud a
      let t := s.enterOff a
      t.aud a = { x with
          state := .off, pendingRequest := none, lane := Lane.reset
          tracker := { x.tracker with
            state := .idle, agree := 1, lastTc := none, repeats := 0, lossTimer := none, holdTimer := none }
          release := { x.release with
            channels := (t.aud a).release.channels, leaving := [] }
          streamer := { x.streamer with streams := Vector.replicate 4 Stream.reset, bufferCount := 0, offers := [] } }
        ∧ (∀ c : Chan, (t.aud a).release.channels[c] = { x.release.channels[c] with kind := .off })
        ∧ (∀ i : Fin 1024, t.devices.entries[i] = (match s.devices.entries[i] with
            | none => none
            | some d => if d.auditorium = a then none else some d))
        ∧ (DevicesOk s.devices → DevicesOk t.devices ∧ ∀ c : Chan, t.audience a c = 0)
        ∧ t = { (s.setAud a (t.aud a)).updParty (Party.slot a) (fun y => { y with mirrorTimer := none }) with
            devices := { s.devices with entries := t.devices.entries, audience := t.devices.audience } }

/-- A request reaching the lifecycle (R37, R38, R170, R171, R175). A SHOW request with a bad programme changes no
auditorium and reports one MAJOR CONFIG_BAD with its reference. In CLOSING any other is held as the pending request and
acts on nothing; elsewhere it gives its parameters, and in STANDBY and SHOW its descriptors, after one CONFIG_CLAMPED
for a state code that names none, and then acts by R170's table, with one report of a changed auditorium state. In SHOW
a SHOW request of the held programme changes nothing more, one of the same programme with more segments appends, and
one of another programme closes. An append raises the segment count; a COMPLETE table loads on from the load cursor,
its next batch asked for, and in any other state of the table nothing else changes. The batch's address wraps in 64
bits (deduced, log 6). -/
def Obligations.LifecycleTakesRequests : Prop :=
  (∀ (s : State) (a : Aud) (r : SlotRequest),
    let t := s.handRequest a r
    let bad := r.requested = .show
      ∧ (r.reference = 0 ∨ r.segmentCount = 0 ∨ 32 < r.segmentCount ∨ 5 < r.editRate)
    let p := (s.aud a).programme
    let u := s.reportClamp a r.stateBad
    let given := u.takeParameters a r
    let v := given.takeDescriptors a r
    let same := p.reference = r.reference ∧ p.editRate = r.editRate
    (bad → t = s.report (Party.slot a) .major .configBad (some r.reference) none ∧ t.auds = s.auds)
      ∧ (¬bad →
        ((s.aud a).state ≠ .closing →
          (t.aud a).programme.keepBack = min r.keepBack 432000
            ∧ (t.aud a).tracker.tcOffset = max (-600) (min 600 r.tcOffset)
            ∧ (t.aud a).tracker.freewheelLimit = min r.freewheelLimit 4800
            ∧ (t.aud a).tracker.catchUpLimit = max 24 (min 1200 r.catchUpLimit))
          ∧ ((s.aud a).state = .off →
          (r.requested = .off → t = given ∧ (t.aud a).state = .off)
            ∧ (r.requested = .standby →
              t = (given.offToStandby a r).raiseReason (Party.slot a) ∧ (t.aud a).state = .standby)
            ∧ (r.requested = .show →
              t = ((given.offToStandby a r).attach a r).raiseReason (Party.slot a) ∧ (t.aud a).state = .show))
          ∧ ((s.aud a).state = .standby →
            (r.requested = .off → t = (v.enterOff a).raiseReason (Party.slot a) ∧ (t.aud a).state = .off)
              ∧ (r.requested = .standby → t = v ∧ (t.aud a).state = .standby)
              ∧ (r.requested = .show →
                t = (v.attach a r).raiseReason (Party.slot a) ∧ (t.aud a).state = .show))
          ∧ ((s.aud a).state = .show →
            let closes := r.requested ≠ .show ∨ ¬same ∨ r.segmentCount < p.segmentCount
            (closes → t = (v.enterClosing a r).raiseReason (Party.slot a) ∧ (t.aud a).state = .closing
                ∧ (t.aud a).pendingRequest = some r)
              ∧ (¬closes → r.segmentCount = p.segmentCount → t = v ∧ (t.aud a).state = .show)
              ∧ (¬closes → p.segmentCount < r.segmentCount →
                t = v.append a r.segmentCount ∧ (t.aud a).state = .show))
          ∧ ((s.aud a).state = .closing →
            t = u.setAud a { s.aud a with pendingRequest := some r })))
    ∧ ∀ (s : State) (a : Aud) (n : Nat),
      let x := s.aud a
      let p := x.programme
      let t := s.append a n
      let batch : Request := {
        party := Party.slot a, purpose := .segmentDesc, requester := .programme, ordinal := none
        attachTag := some s.fetch.attachGen[a], seekTag := none, epochTag := s.fetch.runEpoch
        address := p.reference + BitVec.ofNat 64 (32 * p.loadCursor)
        length := 32 * min 16 (n - p.loadCursor), terms := .fixed 1 }
      let asked := s.offerResult (Party.slot a) = .entered
      (p.tableState ≠ .complete → t = s.setAud a { x with programme := { p with segmentCount := n } })
        ∧ (p.tableState = .complete → t = { s.setAud a { x with programme := { p with
              segmentCount := n, tableState := .loading
              batch := if asked then .outstanding else .waiting batch } } with
            fetch := if asked then s.fetch.withEntered batch 1 else s.fetch })

/-! ### Mirrors and incidents -/

/-- The mirror halves (R184, R190), each of 256 bytes with the stamp in both stamp head and stamp tail and the taken
generation, 0 where none is taken (the model's choice, log 32). A slot's: the auditorium and tracker state, trim,
retire mark, P, audiences, the parameters held, channel kinds, keep-back, counters and incident record at their
offsets. The site's: the two thresholds held and the site's incident record. The code of a record never written is 0
(log 26). -/
def Obligations.MirrorLayouts : Prop :=
  (∀ (s : State) (a : Aud) (stamp : Word),
    let h := s.slotMirror a stamp
    let x := s.aud a
    h.length = 256
      ∧ leNat h 0x00 4 = stamp.toNat ∧ leNat h 0xFC 4 = stamp.toNat
      ∧ leNat h 0x04 4 = ((s.party (Party.slot a)).takenGen.getD 0).toNat
      ∧ leNat h 0x08 1 = (match x.state with
          | .off => 0
          | .standby => 1
          | .show => 2
          | .closing => 3)
      ∧ leNat h 0x09 1 = (match x.tracker.state with
          | .idle => 0
          | .acquire => 1
          | .locked => 2
          | .freewheel => 3
          | .paused => 4
          | .held => 5)
      ∧ leNat h 0x0B 1 = x.programme.retireMark % 256
      ∧ leNat h 0x0C 4 = s.position a % 4294967296
      ∧ (∀ c : Chan, leNat h (0x10 + 2 * c.val) 2 = s.audience a c % 65536)
      ∧ (∀ c : Chan, leNat h (0x20 + c.val) 1 = (match x.release.channels[c].kind with
          | .off => 0
          | .text => 1
          | .audio => 2))
      ∧ leNat h 0x0A 1 = (x.tracker.trim % 256).toNat
      ∧ leNat h 0x18 2 = (x.tracker.tcOffset % 65536).toNat
      ∧ leNat h 0x1A 2 = x.tracker.freewheelLimit % 65536 ∧ leNat h 0x1C 2 = x.tracker.catchUpLimit % 65536
      ∧ leNat h 0x24 4 = x.programme.keepBack % 4294967296
      ∧ (∀ k : Fin 16, leNat h (0x28 + 4 * k.val) 4 = x.counters[k].toNat)
      ∧ IncidentLaid h 0x68 (s.incident (Party.slot a))
      ∧ leNat h 0x1E 2 = 0 ∧ ∀ k, 0x88 ≤ k → k < 0xFC → byteAt h k = 0)
    ∧ ∀ (s : State) (stamp : Word),
      let h := s.siteMirror stamp
      h.length = 256 ∧ leNat h 0x00 4 = stamp.toNat ∧ leNat h 0xFC 4 = stamp.toNat
        ∧ leNat h 0x04 4 = ((s.party Party.site).takenGen.getD 0).toNat
        ∧ leNat h 0x08 2 = s.devices.quietThreshold % 65536 ∧ leNat h 0x0A 2 = s.devices.releaseThreshold % 65536
        ∧ leNat h 0x0C 4 = 0 ∧ IncidentLaid h 0x10 (s.incident Party.site)
        ∧ ∀ k, 0x30 ≤ k → k < 0xFC → byteAt h k = 0

/-- Incident records (R192 to R195): a report writes a record that is not valid, or a MINOR one where it is MAJOR, and
otherwise only sets overflow; every MINOR report counts, up to 65535; a matching acknowledge of a valid record clears
valid and overflow alone; the sweep raises the reason for exactly the parties whose count changed flag is set and
clears the flags. -/
def Obligations.IncidentRecordsFollowReports : Prop :=
  (∀ (s : State) (p : Party) (severity : Severity) (code : IncidentCode) (address : Option HostAddr)
      (ordinal : Option Nat),
    let r := s.incident p
    let t := s.report p severity code address ordinal
    let written := r.valid = false ∨ (r.severity = .minor ∧ severity = .major)
    ((t.incident p).minorCount =
        if severity = .minor ∧ r.minorCount < 65535 then r.minorCount + 1 else r.minorCount)
      ∧ (written → (t.incident p).valid = true ∧ (t.incident p).overflow = r.valid
        ∧ (t.incident p).severity = severity ∧ (t.incident p).code = code
        ∧ (t.incident p).addressValid = address.isSome ∧ (t.incident p).address = address.getD 0
        ∧ (t.incident p).ordinalValid = ordinal.isSome ∧ (t.incident p).ordinal = ordinal.getD 0
        ∧ (t.incident p).position = s.partyPosition p ∧ (t.incident p).sequence = r.sequence + 1)
      ∧ (¬written → t.incident p = { r with
          overflow := true, minorCount := (t.incident p).minorCount
          countChanged := (t.incident p).countChanged })
      ∧ ((written ∨ r.overflow = false) →
        (t.party p).noticesOwed = true ∧ (t.incident p).countChanged = false)
      ∧ (¬written → r.overflow = true → t = { s with incidents := t.incidents }
        ∧ (t.incident p).countChanged
          = (r.countChanged || decide (severity = .minor ∧ r.minorCount < 65535)))
      ∧ (∀ q, q ≠ p → t.incident q = s.incident q) ∧ t.auds = s.auds ∧ t.regs = s.regs
      ∧ t.devices = s.devices ∧ t.pool = s.pool)
    ∧ (∀ (s : State) (p : Party) (sequence : BitVec 16),
      (sequence = (s.incident p).sequence → (s.incident p).valid = true →
        s.acknowledge p sequence = s.setIncident p
          { s.incident p with valid := false, overflow := false })
        ∧ ((sequence ≠ (s.incident p).sequence ∨ (s.incident p).valid = false) →
          s.acknowledge p sequence = s))
    ∧ ∀ s : State, ∃ t, exec .incidentSweep s = .next t
      ∧ (∀ p : Party, t.incident p = { s.incident p with countChanged := false })
      ∧ (∀ p : Party, (s.incident p).countChanged = true →
          (t.party p).noticesOwed = true ∧ (t.party p).mirrorWrite ≠ .none)
      ∧ (∀ p : Party, (s.incident p).countChanged = false → t.party p = s.party p)
      ∧ t = { s with fetch := t.fetch, exchange := t.exchange, incidents := t.incidents }

/-! ### What every step keeps -/

/-- Every step keeps every tracker context in its ranges (R2, R11, R12, R18). -/
def Obligations.TrackersStayInRange : Prop :=
  ∀ s t : State, s.TrackersOk → step s = .next t → t.TrackersOk

/-- Every step keeps the Fetch Engine's places and counts (R75, R78). -/
def Obligations.FetchCountsStayRight : Prop :=
  ∀ s t : State, FetchOk s.fetch → step s = .next t → FetchOk t.fetch

/-- Every step keeps the part still while ENABLE is 0: every auditorium OFF, nothing queued, read or noted (R78, R187),
and the low bits of KXBASE 0 (R186). -/
def Obligations.DisabledPartStaysStill : Prop :=
  ∀ s t : State, StoppedOk s → step s = .next t → StoppedOk t

/-- Every step keeps the text pool and the windows in agreement: each block free or held by the one entry that lists
it, reserves apart, holdings counted, and each waiting entry a LOADING TEXT entry without blocks that waits once (R51,
R85, R86, R87). -/
def Obligations.PoolAgreesWithWindows : Prop :=
  ∀ s t : State, PoolOk s → step s = .next t → PoolOk t

/-- Every step keeps each window in agreement with its state: STOPPED and empty outside SHOW, searching exactly while
SEEKING, with a cursor exactly while SERVING (R51, R54, R73). -/
def Obligations.WindowsMatchTheirStates : Prop :=
  ∀ s t : State, (∀ a : Aud, WindowOk (s.aud a)) → step s = .next t → ∀ a : Aud, WindowOk (t.aud a)

/-- Every step keeps the pages sound: a row without an owner is blank, only TEXT channels in SHOW have rows with
owners, and each owner is an ACTIVE TEXT entry of the auditorium that routes to the channel and covers the row (R94,
R95, R112). That a leave which waited across a seek blanks the rows of the entry it frees is the model's choice (log
41). -/
def Obligations.PagesStaySound : Prop :=
  ∀ s t : State, (∀ a : Aud, PagesOk (s.aud a)) → step s = .next t → ∀ a : Aud, PagesOk (t.aud a)

/-- Every step keeps the streamer's places: four carriages and twelve packets to a channel, twenty-four packets to an
auditorium, and a right count of them (R115). -/
def Obligations.StreamerPlacesHold : Prop :=
  ∀ s t : State, (∀ a : Aud, StreamerOk (s.aud a).streamer) → step s = .next t →
    ∀ a : Aud, StreamerOk (t.aud a).streamer

/-- Every step keeps the lanes sound: lists within their places, frames of eight frame slots with a beacon first, and a
lane OFF exactly while its auditorium is, at its starting values (R132, R133, R134, R137). -/
def Obligations.LanesStaySound : Prop :=
  ∀ s t : State, (∀ a : Aud, LaneOk (s.aud a)) → step s = .next t → ∀ a : Aud, LaneOk (t.aud a)

/-- Every step keeps every audience count equal to the number of ACTIVE entries of its channel, no device id in two
entries, and the thresholds in their ranges (R151, R153, R154). -/
def Obligations.AudienceCountsActiveDevices : Prop :=
  ∀ s t : State, DevicesOk s.devices → step s = .next t → DevicesOk t.devices

/-- Every step keeps the incident records sound: overflow only in a valid record, the count within its range, absent
fields 0 (R191, R192). -/
def Obligations.IncidentRecordsStaySound : Prop :=
  ∀ s t : State, IncidentsOk s → step s = .next t → IncidentsOk t

/-- A command of one auditorium leaves the contexts of every other auditorium as they are (R29, R74, R114, R131, R179).
-/
def Obligations.AuditoriumsStandApart : Prop :=
  ∀ (c : Instr) (a b : Aud) (s t : State),
    c.auditorium? = some a → b ≠ a → exec c s = .next t → t.aud b = s.aud b

/-- The state after reset meets everything that every step keeps. -/
def Obligations.ResetMeetsWhatStepsKeep : Prop :=
  State.reset.TrackersOk ∧ FetchOk State.reset.fetch ∧ StoppedOk State.reset ∧ PoolOk State.reset
    ∧ (∀ a : Aud, WindowOk (State.reset.aud a)) ∧ (∀ a : Aud, PagesOk (State.reset.aud a))
    ∧ (∀ a : Aud, StreamerOk (State.reset.aud a).streamer) ∧ (∀ a : Aud, CuesOk (State.reset.aud a))
    ∧ (∀ a : Aud, LaneOk (State.reset.aud a))
    ∧ DevicesOk State.reset.devices ∧ IncidentsOk State.reset
end

