-- ==== Sys2Proof/Laws/State.lean ====
section
/-! SUPPORT. What each update of the state leaves and what it sets: one lemma for each field of each update, so that no
later proof unfolds a record update. -/

namespace Sys2Proof.Machine

/-! ### Members of a table -/

/-- A member of a table just set. -/
theorem vector_set_same {α : Type} {n : Nat} (v : Vector α n) (i : Fin n) (x : α) :
    (v.set i x)[i] = x := by
  simp

/-- Another member of a table. -/
theorem vector_set_other {α : Type} {n : Nat} (v : Vector α n) {i j : Fin n} (x : α) (h : j ≠ i) :
    (v.set i x)[j] = v[j] := by
  have h' : i.val ≠ j.val := fun e => h (Fin.ext e.symm)
  simp [h']

/-- A table set twice at one place. -/
@[simp] theorem vector_set_twice {α : Type} {n : Nat} (v : Vector α n) (i : Fin n) (x y : α) :
    (v.set i x).set i y = v.set i y := by
  apply Vector.ext
  intro j hj
  simp only [Vector.getElem_set]
  split <;> rfl

/-- A table set to what it holds. -/
@[simp] theorem vector_set_self {α : Type} {n : Nat} (v : Vector α n) (i : Fin n) : v.set i v[i] = v := by
  apply Vector.ext
  intro j hj
  simp only [Vector.getElem_set]
  split
  · next h => subst h; rfl
  · rfl

/-- A member of a mapped table. -/
@[simp] theorem vmap_getElem {α β : Type} {n : Nat} (f : α → β) (v : Vector α n) (k : Nat) (h : k < n) :
    (vmap f v)[k] = f v[k] := by
  simp [vmap]

/-- A member of a mapped table, by its index. -/
theorem vmap_get {α β : Type} {n : Nat} (f : α → β) (v : Vector α n) (i : Fin n) :
    (vmap f v)[i] = f v[i] :=
  vmap_getElem f v i.val i.isLt

/-- A member of a table given member by member. -/
@[simp] theorem vofFn_getElem {α : Type} {n : Nat} (f : Fin n → α) (k : Nat) (h : k < n) :
    (vofFn f)[k] = f ⟨k, h⟩ := by
  simp [vofFn]

/-- A member of a table given member by member, by its index. -/
theorem vofFn_get {α : Type} {n : Nat} (f : Fin n → α) (i : Fin n) : (vofFn f)[i] = f i :=
  vofFn_getElem f i.val i.isLt

/-! ### One auditorium replaced -/

@[simp] theorem aud_setAud_same (s : State) (a : Aud) (x : Auditorium) : (s.setAud a x).aud a = x := by
  simp [State.aud, State.setAud]

theorem aud_setAud_other (s : State) {a b : Aud} (x : Auditorium) (h : b ≠ a) :
    (s.setAud a x).aud b = s.aud b :=
  vector_set_other s.auds x h

@[simp] theorem setAud_twice (s : State) (a : Aud) (x y : Auditorium) :
    (s.setAud a x).setAud a y = s.setAud a y := by
  simp [State.setAud]

@[simp] theorem setAud_self (s : State) (a : Aud) : s.setAud a (s.aud a) = s := by
  simp [State.setAud, State.aud]

@[simp] theorem setAud_regs (s : State) (a : Aud) (x : Auditorium) : (s.setAud a x).regs = s.regs := rfl
@[simp] theorem setAud_fetch (s : State) (a : Aud) (x : Auditorium) : (s.setAud a x).fetch = s.fetch := rfl
@[simp] theorem setAud_pool (s : State) (a : Aud) (x : Auditorium) : (s.setAud a x).pool = s.pool := rfl
@[simp] theorem setAud_devices (s : State) (a : Aud) (x : Auditorium) : (s.setAud a x).devices = s.devices := rfl
@[simp] theorem setAud_exchange (s : State) (a : Aud) (x : Auditorium) : (s.setAud a x).exchange = s.exchange := rfl
@[simp] theorem setAud_incidents (s : State) (a : Aud) (x : Auditorium) : (s.setAud a x).incidents = s.incidents := rfl
@[simp] theorem setAud_pending (s : State) (a : Aud) (x : Auditorium) : (s.setAud a x).pending = s.pending := rfl

/-! ### The tracker changed -/

@[simp] theorem updTracker_regs (s : State) (a : Aud) (f : Tracker → Tracker) :
    (s.updTracker a f).regs = s.regs := rfl
@[simp] theorem updTracker_fetch (s : State) (a : Aud) (f : Tracker → Tracker) :
    (s.updTracker a f).fetch = s.fetch := rfl
@[simp] theorem updTracker_pool (s : State) (a : Aud) (f : Tracker → Tracker) :
    (s.updTracker a f).pool = s.pool := rfl
@[simp] theorem updTracker_devices (s : State) (a : Aud) (f : Tracker → Tracker) :
    (s.updTracker a f).devices = s.devices := rfl
@[simp] theorem updTracker_exchange (s : State) (a : Aud) (f : Tracker → Tracker) :
    (s.updTracker a f).exchange = s.exchange := rfl
@[simp] theorem updTracker_incidents (s : State) (a : Aud) (f : Tracker → Tracker) :
    (s.updTracker a f).incidents = s.incidents := rfl
@[simp] theorem updTracker_pending (s : State) (a : Aud) (f : Tracker → Tracker) :
    (s.updTracker a f).pending = s.pending := rfl
theorem updTracker_aud_other (s : State) {a b : Aud} (f : Tracker → Tracker) (h : b ≠ a) :
    (s.updTracker a f).aud b = s.aud b :=
  aud_setAud_other s _ h
@[simp] theorem updTracker_aud_line (s : State) (a : Aud) (f : Tracker → Tracker) :
    ((s.updTracker a f).aud a).line = (s.aud a).line := by
  simp [State.updTracker]
@[simp] theorem updTracker_aud_tracker (s : State) (a : Aud) (f : Tracker → Tracker) :
    ((s.updTracker a f).aud a).tracker = f (s.aud a).tracker := by
  simp [State.updTracker]
@[simp] theorem updTracker_aud_programme (s : State) (a : Aud) (f : Tracker → Tracker) :
    ((s.updTracker a f).aud a).programme = (s.aud a).programme := by
  simp [State.updTracker]
@[simp] theorem updTracker_aud_window (s : State) (a : Aud) (f : Tracker → Tracker) :
    ((s.updTracker a f).aud a).window = (s.aud a).window := by
  simp [State.updTracker]
@[simp] theorem updTracker_aud_release (s : State) (a : Aud) (f : Tracker → Tracker) :
    ((s.updTracker a f).aud a).release = (s.aud a).release := by
  simp [State.updTracker]
@[simp] theorem updTracker_aud_streamer (s : State) (a : Aud) (f : Tracker → Tracker) :
    ((s.updTracker a f).aud a).streamer = (s.aud a).streamer := by
  simp [State.updTracker]
@[simp] theorem updTracker_aud_lane (s : State) (a : Aud) (f : Tracker → Tracker) :
    ((s.updTracker a f).aud a).lane = (s.aud a).lane := by
  simp [State.updTracker]
@[simp] theorem updTracker_aud_state (s : State) (a : Aud) (f : Tracker → Tracker) :
    ((s.updTracker a f).aud a).state = (s.aud a).state := by
  simp [State.updTracker]
@[simp] theorem updTracker_aud_pendingRequest (s : State) (a : Aud) (f : Tracker → Tracker) :
    ((s.updTracker a f).aud a).pendingRequest = (s.aud a).pendingRequest := by
  simp [State.updTracker]
@[simp] theorem updTracker_aud_counters (s : State) (a : Aud) (f : Tracker → Tracker) :
    ((s.updTracker a f).aud a).counters = (s.aud a).counters := by
  simp [State.updTracker]

/-! ### The line receiver changed -/

@[simp] theorem updLine_regs (s : State) (a : Aud) (f : LineReceiver → LineReceiver) :
    (s.updLine a f).regs = s.regs := rfl
@[simp] theorem updLine_fetch (s : State) (a : Aud) (f : LineReceiver → LineReceiver) :
    (s.updLine a f).fetch = s.fetch := rfl
@[simp] theorem updLine_pool (s : State) (a : Aud) (f : LineReceiver → LineReceiver) :
    (s.updLine a f).pool = s.pool := rfl
@[simp] theorem updLine_devices (s : State) (a : Aud) (f : LineReceiver → LineReceiver) :
    (s.updLine a f).devices = s.devices := rfl
@[simp] theorem updLine_exchange (s : State) (a : Aud) (f : LineReceiver → LineReceiver) :
    (s.updLine a f).exchange = s.exchange := rfl
@[simp] theorem updLine_incidents (s : State) (a : Aud) (f : LineReceiver → LineReceiver) :
    (s.updLine a f).incidents = s.incidents := rfl
@[simp] theorem updLine_pending (s : State) (a : Aud) (f : LineReceiver → LineReceiver) :
    (s.updLine a f).pending = s.pending := rfl
theorem updLine_aud_other (s : State) {a b : Aud} (f : LineReceiver → LineReceiver) (h : b ≠ a) :
    (s.updLine a f).aud b = s.aud b :=
  aud_setAud_other s _ h
@[simp] theorem updLine_aud_line (s : State) (a : Aud) (f : LineReceiver → LineReceiver) :
    ((s.updLine a f).aud a).line = f (s.aud a).line := by
  simp [State.updLine]
@[simp] theorem updLine_aud_tracker (s : State) (a : Aud) (f : LineReceiver → LineReceiver) :
    ((s.updLine a f).aud a).tracker = (s.aud a).tracker := by
  simp [State.updLine]
@[simp] theorem updLine_aud_programme (s : State) (a : Aud) (f : LineReceiver → LineReceiver) :
    ((s.updLine a f).aud a).programme = (s.aud a).programme := by
  simp [State.updLine]
@[simp] theorem updLine_aud_window (s : State) (a : Aud) (f : LineReceiver → LineReceiver) :
    ((s.updLine a f).aud a).window = (s.aud a).window := by
  simp [State.updLine]
@[simp] theorem updLine_aud_release (s : State) (a : Aud) (f : LineReceiver → LineReceiver) :
    ((s.updLine a f).aud a).release = (s.aud a).release := by
  simp [State.updLine]
@[simp] theorem updLine_aud_streamer (s : State) (a : Aud) (f : LineReceiver → LineReceiver) :
    ((s.updLine a f).aud a).streamer = (s.aud a).streamer := by
  simp [State.updLine]
@[simp] theorem updLine_aud_lane (s : State) (a : Aud) (f : LineReceiver → LineReceiver) :
    ((s.updLine a f).aud a).lane = (s.aud a).lane := by
  simp [State.updLine]
@[simp] theorem updLine_aud_state (s : State) (a : Aud) (f : LineReceiver → LineReceiver) :
    ((s.updLine a f).aud a).state = (s.aud a).state := by
  simp [State.updLine]
@[simp] theorem updLine_aud_pendingRequest (s : State) (a : Aud) (f : LineReceiver → LineReceiver) :
    ((s.updLine a f).aud a).pendingRequest = (s.aud a).pendingRequest := by
  simp [State.updLine]
@[simp] theorem updLine_aud_counters (s : State) (a : Aud) (f : LineReceiver → LineReceiver) :
    ((s.updLine a f).aud a).counters = (s.aud a).counters := by
  simp [State.updLine]

/-! ### The programme changed -/

@[simp] theorem updProgramme_regs (s : State) (a : Aud) (f : Programme → Programme) :
    (s.updProgramme a f).regs = s.regs := rfl
@[simp] theorem updProgramme_fetch (s : State) (a : Aud) (f : Programme → Programme) :
    (s.updProgramme a f).fetch = s.fetch := rfl
@[simp] theorem updProgramme_pool (s : State) (a : Aud) (f : Programme → Programme) :
    (s.updProgramme a f).pool = s.pool := rfl
@[simp] theorem updProgramme_devices (s : State) (a : Aud) (f : Programme → Programme) :
    (s.updProgramme a f).devices = s.devices := rfl
@[simp] theorem updProgramme_exchange (s : State) (a : Aud) (f : Programme → Programme) :
    (s.updProgramme a f).exchange = s.exchange := rfl
@[simp] theorem updProgramme_incidents (s : State) (a : Aud) (f : Programme → Programme) :
    (s.updProgramme a f).incidents = s.incidents := rfl
@[simp] theorem updProgramme_pending (s : State) (a : Aud) (f : Programme → Programme) :
    (s.updProgramme a f).pending = s.pending := rfl
theorem updProgramme_aud_other (s : State) {a b : Aud} (f : Programme → Programme) (h : b ≠ a) :
    (s.updProgramme a f).aud b = s.aud b :=
  aud_setAud_other s _ h
@[simp] theorem updProgramme_aud_line (s : State) (a : Aud) (f : Programme → Programme) :
    ((s.updProgramme a f).aud a).line = (s.aud a).line := by
  simp [State.updProgramme]
@[simp] theorem updProgramme_aud_tracker (s : State) (a : Aud) (f : Programme → Programme) :
    ((s.updProgramme a f).aud a).tracker = (s.aud a).tracker := by
  simp [State.updProgramme]
@[simp] theorem updProgramme_aud_programme (s : State) (a : Aud) (f : Programme → Programme) :
    ((s.updProgramme a f).aud a).programme = f (s.aud a).programme := by
  simp [State.updProgramme]
@[simp] theorem updProgramme_aud_window (s : State) (a : Aud) (f : Programme → Programme) :
    ((s.updProgramme a f).aud a).window = (s.aud a).window := by
  simp [State.updProgramme]
@[simp] theorem updProgramme_aud_release (s : State) (a : Aud) (f : Programme → Programme) :
    ((s.updProgramme a f).aud a).release = (s.aud a).release := by
  simp [State.updProgramme]
@[simp] theorem updProgramme_aud_streamer (s : State) (a : Aud) (f : Programme → Programme) :
    ((s.updProgramme a f).aud a).streamer = (s.aud a).streamer := by
  simp [State.updProgramme]
@[simp] theorem updProgramme_aud_lane (s : State) (a : Aud) (f : Programme → Programme) :
    ((s.updProgramme a f).aud a).lane = (s.aud a).lane := by
  simp [State.updProgramme]
@[simp] theorem updProgramme_aud_state (s : State) (a : Aud) (f : Programme → Programme) :
    ((s.updProgramme a f).aud a).state = (s.aud a).state := by
  simp [State.updProgramme]
@[simp] theorem updProgramme_aud_pendingRequest (s : State) (a : Aud) (f : Programme → Programme) :
    ((s.updProgramme a f).aud a).pendingRequest = (s.aud a).pendingRequest := by
  simp [State.updProgramme]
@[simp] theorem updProgramme_aud_counters (s : State) (a : Aud) (f : Programme → Programme) :
    ((s.updProgramme a f).aud a).counters = (s.aud a).counters := by
  simp [State.updProgramme]

/-! ### The window changed -/

@[simp] theorem updWindow_regs (s : State) (a : Aud) (f : Window → Window) :
    (s.updWindow a f).regs = s.regs := rfl
@[simp] theorem updWindow_fetch (s : State) (a : Aud) (f : Window → Window) :
    (s.updWindow a f).fetch = s.fetch := rfl
@[simp] theorem updWindow_pool (s : State) (a : Aud) (f : Window → Window) :
    (s.updWindow a f).pool = s.pool := rfl
@[simp] theorem updWindow_devices (s : State) (a : Aud) (f : Window → Window) :
    (s.updWindow a f).devices = s.devices := rfl
@[simp] theorem updWindow_exchange (s : State) (a : Aud) (f : Window → Window) :
    (s.updWindow a f).exchange = s.exchange := rfl
@[simp] theorem updWindow_incidents (s : State) (a : Aud) (f : Window → Window) :
    (s.updWindow a f).incidents = s.incidents := rfl
@[simp] theorem updWindow_pending (s : State) (a : Aud) (f : Window → Window) :
    (s.updWindow a f).pending = s.pending := rfl
theorem updWindow_aud_other (s : State) {a b : Aud} (f : Window → Window) (h : b ≠ a) :
    (s.updWindow a f).aud b = s.aud b :=
  aud_setAud_other s _ h
@[simp] theorem updWindow_aud_line (s : State) (a : Aud) (f : Window → Window) :
    ((s.updWindow a f).aud a).line = (s.aud a).line := by
  simp [State.updWindow]
@[simp] theorem updWindow_aud_tracker (s : State) (a : Aud) (f : Window → Window) :
    ((s.updWindow a f).aud a).tracker = (s.aud a).tracker := by
  simp [State.updWindow]
@[simp] theorem updWindow_aud_programme (s : State) (a : Aud) (f : Window → Window) :
    ((s.updWindow a f).aud a).programme = (s.aud a).programme := by
  simp [State.updWindow]
@[simp] theorem updWindow_aud_window (s : State) (a : Aud) (f : Window → Window) :
    ((s.updWindow a f).aud a).window = f (s.aud a).window := by
  simp [State.updWindow]
@[simp] theorem updWindow_aud_release (s : State) (a : Aud) (f : Window → Window) :
    ((s.updWindow a f).aud a).release = (s.aud a).release := by
  simp [State.updWindow]
@[simp] theorem updWindow_aud_streamer (s : State) (a : Aud) (f : Window → Window) :
    ((s.updWindow a f).aud a).streamer = (s.aud a).streamer := by
  simp [State.updWindow]
@[simp] theorem updWindow_aud_lane (s : State) (a : Aud) (f : Window → Window) :
    ((s.updWindow a f).aud a).lane = (s.aud a).lane := by
  simp [State.updWindow]
@[simp] theorem updWindow_aud_state (s : State) (a : Aud) (f : Window → Window) :
    ((s.updWindow a f).aud a).state = (s.aud a).state := by
  simp [State.updWindow]
@[simp] theorem updWindow_aud_pendingRequest (s : State) (a : Aud) (f : Window → Window) :
    ((s.updWindow a f).aud a).pendingRequest = (s.aud a).pendingRequest := by
  simp [State.updWindow]
@[simp] theorem updWindow_aud_counters (s : State) (a : Aud) (f : Window → Window) :
    ((s.updWindow a f).aud a).counters = (s.aud a).counters := by
  simp [State.updWindow]

/-! ### The release changed -/

@[simp] theorem updRelease_regs (s : State) (a : Aud) (f : Release → Release) :
    (s.updRelease a f).regs = s.regs := rfl
@[simp] theorem updRelease_fetch (s : State) (a : Aud) (f : Release → Release) :
    (s.updRelease a f).fetch = s.fetch := rfl
@[simp] theorem updRelease_pool (s : State) (a : Aud) (f : Release → Release) :
    (s.updRelease a f).pool = s.pool := rfl
@[simp] theorem updRelease_devices (s : State) (a : Aud) (f : Release → Release) :
    (s.updRelease a f).devices = s.devices := rfl
@[simp] theorem updRelease_exchange (s : State) (a : Aud) (f : Release → Release) :
    (s.updRelease a f).exchange = s.exchange := rfl
@[simp] theorem updRelease_incidents (s : State) (a : Aud) (f : Release → Release) :
    (s.updRelease a f).incidents = s.incidents := rfl
@[simp] theorem updRelease_pending (s : State) (a : Aud) (f : Release → Release) :
    (s.updRelease a f).pending = s.pending := rfl
theorem updRelease_aud_other (s : State) {a b : Aud} (f : Release → Release) (h : b ≠ a) :
    (s.updRelease a f).aud b = s.aud b :=
  aud_setAud_other s _ h
@[simp] theorem updRelease_aud_line (s : State) (a : Aud) (f : Release → Release) :
    ((s.updRelease a f).aud a).line = (s.aud a).line := by
  simp [State.updRelease]
@[simp] theorem updRelease_aud_tracker (s : State) (a : Aud) (f : Release → Release) :
    ((s.updRelease a f).aud a).tracker = (s.aud a).tracker := by
  simp [State.updRelease]
@[simp] theorem updRelease_aud_programme (s : State) (a : Aud) (f : Release → Release) :
    ((s.updRelease a f).aud a).programme = (s.aud a).programme := by
  simp [State.updRelease]
@[simp] theorem updRelease_aud_window (s : State) (a : Aud) (f : Release → Release) :
    ((s.updRelease a f).aud a).window = (s.aud a).window := by
  simp [State.updRelease]
@[simp] theorem updRelease_aud_release (s : State) (a : Aud) (f : Release → Release) :
    ((s.updRelease a f).aud a).release = f (s.aud a).release := by
  simp [State.updRelease]
@[simp] theorem updRelease_aud_streamer (s : State) (a : Aud) (f : Release → Release) :
    ((s.updRelease a f).aud a).streamer = (s.aud a).streamer := by
  simp [State.updRelease]
@[simp] theorem updRelease_aud_lane (s : State) (a : Aud) (f : Release → Release) :
    ((s.updRelease a f).aud a).lane = (s.aud a).lane := by
  simp [State.updRelease]
@[simp] theorem updRelease_aud_state (s : State) (a : Aud) (f : Release → Release) :
    ((s.updRelease a f).aud a).state = (s.aud a).state := by
  simp [State.updRelease]
@[simp] theorem updRelease_aud_pendingRequest (s : State) (a : Aud) (f : Release → Release) :
    ((s.updRelease a f).aud a).pendingRequest = (s.aud a).pendingRequest := by
  simp [State.updRelease]
@[simp] theorem updRelease_aud_counters (s : State) (a : Aud) (f : Release → Release) :
    ((s.updRelease a f).aud a).counters = (s.aud a).counters := by
  simp [State.updRelease]

/-! ### The streamer changed -/

@[simp] theorem updStreamer_regs (s : State) (a : Aud) (f : Streamer → Streamer) :
    (s.updStreamer a f).regs = s.regs := rfl
@[simp] theorem updStreamer_fetch (s : State) (a : Aud) (f : Streamer → Streamer) :
    (s.updStreamer a f).fetch = s.fetch := rfl
@[simp] theorem updStreamer_pool (s : State) (a : Aud) (f : Streamer → Streamer) :
    (s.updStreamer a f).pool = s.pool := rfl
@[simp] theorem updStreamer_devices (s : State) (a : Aud) (f : Streamer → Streamer) :
    (s.updStreamer a f).devices = s.devices := rfl
@[simp] theorem updStreamer_exchange (s : State) (a : Aud) (f : Streamer → Streamer) :
    (s.updStreamer a f).exchange = s.exchange := rfl
@[simp] theorem updStreamer_incidents (s : State) (a : Aud) (f : Streamer → Streamer) :
    (s.updStreamer a f).incidents = s.incidents := rfl
@[simp] theorem updStreamer_pending (s : State) (a : Aud) (f : Streamer → Streamer) :
    (s.updStreamer a f).pending = s.pending := rfl
theorem updStreamer_aud_other (s : State) {a b : Aud} (f : Streamer → Streamer) (h : b ≠ a) :
    (s.updStreamer a f).aud b = s.aud b :=
  aud_setAud_other s _ h
@[simp] theorem updStreamer_aud_line (s : State) (a : Aud) (f : Streamer → Streamer) :
    ((s.updStreamer a f).aud a).line = (s.aud a).line := by
  simp [State.updStreamer]
@[simp] theorem updStreamer_aud_tracker (s : State) (a : Aud) (f : Streamer → Streamer) :
    ((s.updStreamer a f).aud a).tracker = (s.aud a).tracker := by
  simp [State.updStreamer]
@[simp] theorem updStreamer_aud_programme (s : State) (a : Aud) (f : Streamer → Streamer) :
    ((s.updStreamer a f).aud a).programme = (s.aud a).programme := by
  simp [State.updStreamer]
@[simp] theorem updStreamer_aud_window (s : State) (a : Aud) (f : Streamer → Streamer) :
    ((s.updStreamer a f).aud a).window = (s.aud a).window := by
  simp [State.updStreamer]
@[simp] theorem updStreamer_aud_release (s : State) (a : Aud) (f : Streamer → Streamer) :
    ((s.updStreamer a f).aud a).release = (s.aud a).release := by
  simp [State.updStreamer]
@[simp] theorem updStreamer_aud_streamer (s : State) (a : Aud) (f : Streamer → Streamer) :
    ((s.updStreamer a f).aud a).streamer = f (s.aud a).streamer := by
  simp [State.updStreamer]
@[simp] theorem updStreamer_aud_lane (s : State) (a : Aud) (f : Streamer → Streamer) :
    ((s.updStreamer a f).aud a).lane = (s.aud a).lane := by
  simp [State.updStreamer]
@[simp] theorem updStreamer_aud_state (s : State) (a : Aud) (f : Streamer → Streamer) :
    ((s.updStreamer a f).aud a).state = (s.aud a).state := by
  simp [State.updStreamer]
@[simp] theorem updStreamer_aud_pendingRequest (s : State) (a : Aud) (f : Streamer → Streamer) :
    ((s.updStreamer a f).aud a).pendingRequest = (s.aud a).pendingRequest := by
  simp [State.updStreamer]
@[simp] theorem updStreamer_aud_counters (s : State) (a : Aud) (f : Streamer → Streamer) :
    ((s.updStreamer a f).aud a).counters = (s.aud a).counters := by
  simp [State.updStreamer]

/-! ### The lane changed -/

@[simp] theorem updLane_regs (s : State) (a : Aud) (f : Lane → Lane) :
    (s.updLane a f).regs = s.regs := rfl
@[simp] theorem updLane_fetch (s : State) (a : Aud) (f : Lane → Lane) :
    (s.updLane a f).fetch = s.fetch := rfl
@[simp] theorem updLane_pool (s : State) (a : Aud) (f : Lane → Lane) :
    (s.updLane a f).pool = s.pool := rfl
@[simp] theorem updLane_devices (s : State) (a : Aud) (f : Lane → Lane) :
    (s.updLane a f).devices = s.devices := rfl
@[simp] theorem updLane_exchange (s : State) (a : Aud) (f : Lane → Lane) :
    (s.updLane a f).exchange = s.exchange := rfl
@[simp] theorem updLane_incidents (s : State) (a : Aud) (f : Lane → Lane) :
    (s.updLane a f).incidents = s.incidents := rfl
@[simp] theorem updLane_pending (s : State) (a : Aud) (f : Lane → Lane) :
    (s.updLane a f).pending = s.pending := rfl
theorem updLane_aud_other (s : State) {a b : Aud} (f : Lane → Lane) (h : b ≠ a) :
    (s.updLane a f).aud b = s.aud b :=
  aud_setAud_other s _ h
@[simp] theorem updLane_aud_line (s : State) (a : Aud) (f : Lane → Lane) :
    ((s.updLane a f).aud a).line = (s.aud a).line := by
  simp [State.updLane]
@[simp] theorem updLane_aud_tracker (s : State) (a : Aud) (f : Lane → Lane) :
    ((s.updLane a f).aud a).tracker = (s.aud a).tracker := by
  simp [State.updLane]
@[simp] theorem updLane_aud_programme (s : State) (a : Aud) (f : Lane → Lane) :
    ((s.updLane a f).aud a).programme = (s.aud a).programme := by
  simp [State.updLane]
@[simp] theorem updLane_aud_window (s : State) (a : Aud) (f : Lane → Lane) :
    ((s.updLane a f).aud a).window = (s.aud a).window := by
  simp [State.updLane]
@[simp] theorem updLane_aud_release (s : State) (a : Aud) (f : Lane → Lane) :
    ((s.updLane a f).aud a).release = (s.aud a).release := by
  simp [State.updLane]
@[simp] theorem updLane_aud_streamer (s : State) (a : Aud) (f : Lane → Lane) :
    ((s.updLane a f).aud a).streamer = (s.aud a).streamer := by
  simp [State.updLane]
@[simp] theorem updLane_aud_lane (s : State) (a : Aud) (f : Lane → Lane) :
    ((s.updLane a f).aud a).lane = f (s.aud a).lane := by
  simp [State.updLane]
@[simp] theorem updLane_aud_state (s : State) (a : Aud) (f : Lane → Lane) :
    ((s.updLane a f).aud a).state = (s.aud a).state := by
  simp [State.updLane]
@[simp] theorem updLane_aud_pendingRequest (s : State) (a : Aud) (f : Lane → Lane) :
    ((s.updLane a f).aud a).pendingRequest = (s.aud a).pendingRequest := by
  simp [State.updLane]
@[simp] theorem updLane_aud_counters (s : State) (a : Aud) (f : Lane → Lane) :
    ((s.updLane a f).aud a).counters = (s.aud a).counters := by
  simp [State.updLane]

/-! ### The lifecycle context changed -/

@[simp] theorem setLifecycle_regs (s : State) (a : Aud) (st : AudState) (r : Option SlotRequest) :
    (s.setLifecycle a st r).regs = s.regs := rfl
@[simp] theorem setLifecycle_fetch (s : State) (a : Aud) (st : AudState) (r : Option SlotRequest) :
    (s.setLifecycle a st r).fetch = s.fetch := rfl
@[simp] theorem setLifecycle_pool (s : State) (a : Aud) (st : AudState) (r : Option SlotRequest) :
    (s.setLifecycle a st r).pool = s.pool := rfl
@[simp] theorem setLifecycle_devices (s : State) (a : Aud) (st : AudState) (r : Option SlotRequest) :
    (s.setLifecycle a st r).devices = s.devices := rfl
@[simp] theorem setLifecycle_exchange (s : State) (a : Aud) (st : AudState) (r : Option SlotRequest) :
    (s.setLifecycle a st r).exchange = s.exchange := rfl
@[simp] theorem setLifecycle_incidents (s : State) (a : Aud) (st : AudState) (r : Option SlotRequest) :
    (s.setLifecycle a st r).incidents = s.incidents := rfl
@[simp] theorem setLifecycle_pending (s : State) (a : Aud) (st : AudState) (r : Option SlotRequest) :
    (s.setLifecycle a st r).pending = s.pending := rfl
@[simp] theorem setLifecycle_aud_line (s : State) (a : Aud) (st : AudState) (r : Option SlotRequest) :
    ((s.setLifecycle a st r).aud a).line = (s.aud a).line := by
  simp [State.setLifecycle]
@[simp] theorem setLifecycle_aud_tracker (s : State) (a : Aud) (st : AudState) (r : Option SlotRequest) :
    ((s.setLifecycle a st r).aud a).tracker = (s.aud a).tracker := by
  simp [State.setLifecycle]
@[simp] theorem setLifecycle_aud_programme (s : State) (a : Aud) (st : AudState) (r : Option SlotRequest) :
    ((s.setLifecycle a st r).aud a).programme = (s.aud a).programme := by
  simp [State.setLifecycle]
@[simp] theorem setLifecycle_aud_window (s : State) (a : Aud) (st : AudState) (r : Option SlotRequest) :
    ((s.setLifecycle a st r).aud a).window = (s.aud a).window := by
  simp [State.setLifecycle]
@[simp] theorem setLifecycle_aud_release (s : State) (a : Aud) (st : AudState) (r : Option SlotRequest) :
    ((s.setLifecycle a st r).aud a).release = (s.aud a).release := by
  simp [State.setLifecycle]
@[simp] theorem setLifecycle_aud_streamer (s : State) (a : Aud) (st : AudState) (r : Option SlotRequest) :
    ((s.setLifecycle a st r).aud a).streamer = (s.aud a).streamer := by
  simp [State.setLifecycle]
@[simp] theorem setLifecycle_aud_lane (s : State) (a : Aud) (st : AudState) (r : Option SlotRequest) :
    ((s.setLifecycle a st r).aud a).lane = (s.aud a).lane := by
  simp [State.setLifecycle]
@[simp] theorem setLifecycle_aud_state (s : State) (a : Aud) (st : AudState) (r : Option SlotRequest) :
    ((s.setLifecycle a st r).aud a).state = st := by
  simp [State.setLifecycle]
@[simp] theorem setLifecycle_aud_pendingRequest (s : State) (a : Aud) (st : AudState) (r : Option SlotRequest) :
    ((s.setLifecycle a st r).aud a).pendingRequest = r := by
  simp [State.setLifecycle]
@[simp] theorem setLifecycle_aud_counters (s : State) (a : Aud) (st : AudState) (r : Option SlotRequest) :
    ((s.setLifecycle a st r).aud a).counters = (s.aud a).counters := by
  simp [State.setLifecycle]

/-! ### A counter raised -/

@[simp] theorem bump_regs (s : State) (a : Aud) (k : Counter) (n : Nat) :
    (s.bump a k n).regs = s.regs := rfl
@[simp] theorem bump_fetch (s : State) (a : Aud) (k : Counter) (n : Nat) :
    (s.bump a k n).fetch = s.fetch := rfl
@[simp] theorem bump_pool (s : State) (a : Aud) (k : Counter) (n : Nat) :
    (s.bump a k n).pool = s.pool := rfl
@[simp] theorem bump_devices (s : State) (a : Aud) (k : Counter) (n : Nat) :
    (s.bump a k n).devices = s.devices := rfl
@[simp] theorem bump_exchange (s : State) (a : Aud) (k : Counter) (n : Nat) :
    (s.bump a k n).exchange = s.exchange := rfl
@[simp] theorem bump_incidents (s : State) (a : Aud) (k : Counter) (n : Nat) :
    (s.bump a k n).incidents = s.incidents := rfl
@[simp] theorem bump_pending (s : State) (a : Aud) (k : Counter) (n : Nat) :
    (s.bump a k n).pending = s.pending := rfl
@[simp] theorem bump_aud_line (s : State) (a : Aud) (k : Counter) (n : Nat) :
    ((s.bump a k n).aud a).line = (s.aud a).line := by
  simp [State.bump]
@[simp] theorem bump_aud_tracker (s : State) (a : Aud) (k : Counter) (n : Nat) :
    ((s.bump a k n).aud a).tracker = (s.aud a).tracker := by
  simp [State.bump]
@[simp] theorem bump_aud_programme (s : State) (a : Aud) (k : Counter) (n : Nat) :
    ((s.bump a k n).aud a).programme = (s.aud a).programme := by
  simp [State.bump]
@[simp] theorem bump_aud_window (s : State) (a : Aud) (k : Counter) (n : Nat) :
    ((s.bump a k n).aud a).window = (s.aud a).window := by
  simp [State.bump]
@[simp] theorem bump_aud_release (s : State) (a : Aud) (k : Counter) (n : Nat) :
    ((s.bump a k n).aud a).release = (s.aud a).release := by
  simp [State.bump]
@[simp] theorem bump_aud_streamer (s : State) (a : Aud) (k : Counter) (n : Nat) :
    ((s.bump a k n).aud a).streamer = (s.aud a).streamer := by
  simp [State.bump]
@[simp] theorem bump_aud_lane (s : State) (a : Aud) (k : Counter) (n : Nat) :
    ((s.bump a k n).aud a).lane = (s.aud a).lane := by
  simp [State.bump]
@[simp] theorem bump_aud_state (s : State) (a : Aud) (k : Counter) (n : Nat) :
    ((s.bump a k n).aud a).state = (s.aud a).state := by
  simp [State.bump]
@[simp] theorem bump_aud_pendingRequest (s : State) (a : Aud) (k : Counter) (n : Nat) :
    ((s.bump a k n).aud a).pendingRequest = (s.aud a).pendingRequest := by
  simp [State.bump]
@[simp] theorem bump_aud_counters (s : State) (a : Aud) (k : Counter) (n : Nat) :
    ((s.bump a k n).aud a).counters = (s.aud a).counters.set k.index
      ((s.aud a).counters[k.index] + BitVec.ofNat 32 n) := by
  simp [State.bump]

/-! ### An exchange context changed -/

@[simp] theorem updParty_regs (s : State) (p : Party) (f : ExchangeContext → ExchangeContext) :
    (s.updParty p f).regs = s.regs := rfl
@[simp] theorem updParty_fetch (s : State) (p : Party) (f : ExchangeContext → ExchangeContext) :
    (s.updParty p f).fetch = s.fetch := rfl
@[simp] theorem updParty_pool (s : State) (p : Party) (f : ExchangeContext → ExchangeContext) :
    (s.updParty p f).pool = s.pool := rfl
@[simp] theorem updParty_auds (s : State) (p : Party) (f : ExchangeContext → ExchangeContext) :
    (s.updParty p f).auds = s.auds := rfl
@[simp] theorem updParty_devices (s : State) (p : Party) (f : ExchangeContext → ExchangeContext) :
    (s.updParty p f).devices = s.devices := rfl
@[simp] theorem updParty_incidents (s : State) (p : Party) (f : ExchangeContext → ExchangeContext) :
    (s.updParty p f).incidents = s.incidents := rfl
@[simp] theorem updParty_pending (s : State) (p : Party) (f : ExchangeContext → ExchangeContext) :
    (s.updParty p f).pending = s.pending := rfl
@[simp] theorem updParty_aud (s : State) (p : Party) (f : ExchangeContext → ExchangeContext) (a : Aud) :
    (s.updParty p f).aud a = s.aud a := rfl
@[simp] theorem updParty_offers (s : State) (p : Party) (f : ExchangeContext → ExchangeContext) :
    (s.updParty p f).exchange.offers = s.exchange.offers := rfl
@[simp] theorem updParty_departures (s : State) (p : Party) (f : ExchangeContext → ExchangeContext) :
    (s.updParty p f).exchange.departures = s.exchange.departures := rfl
@[simp] theorem updParty_party_same (s : State) (p : Party) (f : ExchangeContext → ExchangeContext) :
    (s.updParty p f).party p = f (s.party p) := by
  simp [State.party, State.updParty]
theorem updParty_party_other (s : State) {p q : Party} (f : ExchangeContext → ExchangeContext) (h : q ≠ p) :
    (s.updParty p f).party q = s.party q :=
  vector_set_other s.exchange.parties _ h

/-! ### An incident record replaced -/

@[simp] theorem setIncident_regs (s : State) (p : Party) (r : IncidentRecord) :
    (s.setIncident p r).regs = s.regs := rfl
@[simp] theorem setIncident_fetch (s : State) (p : Party) (r : IncidentRecord) :
    (s.setIncident p r).fetch = s.fetch := rfl
@[simp] theorem setIncident_pool (s : State) (p : Party) (r : IncidentRecord) :
    (s.setIncident p r).pool = s.pool := rfl
@[simp] theorem setIncident_auds (s : State) (p : Party) (r : IncidentRecord) :
    (s.setIncident p r).auds = s.auds := rfl
@[simp] theorem setIncident_devices (s : State) (p : Party) (r : IncidentRecord) :
    (s.setIncident p r).devices = s.devices := rfl
@[simp] theorem setIncident_exchange (s : State) (p : Party) (r : IncidentRecord) :
    (s.setIncident p r).exchange = s.exchange := rfl
@[simp] theorem setIncident_pending (s : State) (p : Party) (r : IncidentRecord) :
    (s.setIncident p r).pending = s.pending := rfl
@[simp] theorem setIncident_aud (s : State) (p : Party) (r : IncidentRecord) (a : Aud) :
    (s.setIncident p r).aud a = s.aud a := rfl
@[simp] theorem setIncident_party (s : State) (p q : Party) (r : IncidentRecord) :
    (s.setIncident p r).party q = s.party q := rfl
@[simp] theorem setIncident_incident_same (s : State) (p : Party) (r : IncidentRecord) :
    (s.setIncident p r).incident p = r := by
  simp [State.incident, State.setIncident]
theorem setIncident_incident_other (s : State) {p q : Party} (r : IncidentRecord) (h : q ≠ p) :
    (s.setIncident p r).incident q = s.incident q :=
  vector_set_other s.incidents r h

/-! ### A request entering the queue -/

@[simp] theorem enqueue_regs (s : State) (r : Request) : (s.enqueue r).regs = s.regs := rfl
@[simp] theorem enqueue_pool (s : State) (r : Request) : (s.enqueue r).pool = s.pool := rfl
@[simp] theorem enqueue_auds (s : State) (r : Request) : (s.enqueue r).auds = s.auds := rfl
@[simp] theorem enqueue_devices (s : State) (r : Request) : (s.enqueue r).devices = s.devices := rfl
@[simp] theorem enqueue_exchange (s : State) (r : Request) : (s.enqueue r).exchange = s.exchange := rfl
@[simp] theorem enqueue_incidents (s : State) (r : Request) : (s.enqueue r).incidents = s.incidents := rfl
@[simp] theorem enqueue_pending (s : State) (r : Request) : (s.enqueue r).pending = s.pending := rfl
@[simp] theorem enqueue_fetch_inFlight (s : State) (r : Request) :
    (s.enqueue r).fetch.inFlight = s.fetch.inFlight := rfl
@[simp] theorem enqueue_fetch_programmeReads (s : State) (r : Request) :
    (s.enqueue r).fetch.programmeReads = s.fetch.programmeReads := rfl
@[simp] theorem enqueue_fetch_attachGen (s : State) (r : Request) :
    (s.enqueue r).fetch.attachGen = s.fetch.attachGen := rfl
@[simp] theorem enqueue_fetch_runEpoch (s : State) (r : Request) :
    (s.enqueue r).fetch.runEpoch = s.fetch.runEpoch := rfl
@[simp] theorem enqueue_fetch_drained (s : State) (r : Request) :
    (s.enqueue r).fetch.drained = s.fetch.drained := rfl
@[simp] theorem enqueue_fetch_nextTag (s : State) (r : Request) :
    (s.enqueue r).fetch.nextTag = s.fetch.nextTag := rfl
@[simp] theorem enqueue_fetch_lastWrite (s : State) (r : Request) :
    (s.enqueue r).fetch.lastWrite = s.fetch.lastWrite := rfl
@[simp] theorem enqueue_queue (s : State) (r : Request) :
    (s.enqueue r).fetch.queue = s.fetch.queue ++ [⟨r, s.classOf r⟩] := rfl
@[simp] theorem enqueue_aud (s : State) (r : Request) (a : Aud) : (s.enqueue r).aud a = s.aud a := rfl
@[simp] theorem enqueue_party (s : State) (r : Request) (p : Party) : (s.enqueue r).party p = s.party p := rfl
@[simp] theorem enqueue_incident (s : State) (r : Request) (p : Party) :
    (s.enqueue r).incident p = s.incident p := rfl

/-! ### A window entry replaced -/

@[simp] theorem setEntry_entry_same (w : Window) (e : EntryIx) (x : Entry) : (w.setEntry e x).entry e = x := by
  simp [Window.entry, Window.setEntry]
theorem setEntry_entry_other (w : Window) {e d : EntryIx} (x : Entry) (h : d ≠ e) :
    (w.setEntry e x).entry d = w.entry d :=
  vector_set_other w.entries x h
@[simp] theorem setEntry_state (w : Window) (e : EntryIx) (x : Entry) : (w.setEntry e x).state = w.state := rfl
@[simp] theorem setEntry_cursor (w : Window) (e : EntryIx) (x : Entry) : (w.setEntry e x).cursor = w.cursor := rfl
@[simp] theorem setEntry_rePlacing (w : Window) (e : EntryIx) (x : Entry) : (w.setEntry e x).rePlacing = w.rePlacing := rfl
@[simp] theorem setEntry_resumeBound (w : Window) (e : EntryIx) (x : Entry) : (w.setEntry e x).resumeBound = w.resumeBound := rfl
@[simp] theorem setEntry_search (w : Window) (e : EntryIx) (x : Entry) : (w.setEntry e x).search = w.search := rfl
@[simp] theorem setEntry_offers (w : Window) (e : EntryIx) (x : Entry) : (w.setEntry e x).offers = w.offers := rfl
@[simp] theorem setEntry_poolWait (w : Window) (e : EntryIx) (x : Entry) : (w.setEntry e x).poolWait = w.poolWait := rfl
@[simp] theorem setEntry_readyTaken (w : Window) (e : EntryIx) (x : Entry) : (w.setEntry e x).readyTaken = w.readyTaken := rfl
@[simp] theorem setEntry_readyEvent (w : Window) (e : EntryIx) (x : Entry) : (w.setEntry e x).readyEvent = w.readyEvent := rfl
@[simp] theorem setEntry_orders (w : Window) (e : EntryIx) (x : Entry) : (w.setEntry e x).orders = w.orders := rfl
@[simp] theorem setEntry_leaves (w : Window) (e : EntryIx) (x : Entry) : (w.setEntry e x).leaves = w.leaves := rfl
@[simp] theorem setEntry_departures (w : Window) (e : EntryIx) (x : Entry) : (w.setEntry e x).departures = w.departures := rfl

end Sys2Proof.Machine
end

