-- ==== Sys2Proof/Laws/Ops.lean ====
section
/-! SUPPORT. What the shared operations can do, said once for each: an offer, a request of a window, of the streamer, of
the Programme Unit and of the Exchange Unit, a notice reason, a report, a leave, a row changed, an entry freed, a stream context's
losses and its settling. -/

namespace Sys2Proof.Machine

/-! ### Folds -/

/-- What every step of a fold does, with nothing lost on the way, the whole fold does. -/
theorem foldl_keeps {σ α : Type} (R : σ → σ → Prop) (refl : ∀ s, R s s)
    (trans : ∀ {s t u}, R s t → R t u → R s u) (f : σ → α → σ) (h : ∀ s x, R s (f s x)) :
    ∀ (xs : List α) (s : σ), R s (xs.foldl f s)
  | [], s => refl s
  | x :: xs, s => trans (h s x) (foldl_keeps R refl trans f h xs (f s x))

/-! ### A list kept in order -/

/-- What is put into a list stands behind members it may not stand before, and before the first that it may. -/
theorem insertBy_split {α : Type} (before : α → α → Bool) (x : α) : ∀ ys : List α, ∃ front back,
    ys = front ++ back ∧ insertBy before x ys = front ++ x :: back ∧ (∀ y ∈ front, before x y = false)
      ∧ ∀ y more, back = y :: more → before x y = true
  | [] => ⟨[], [], rfl, rfl, nofun, nofun⟩
  | y :: ys => by
    by_cases h : before x y = true
    · exact ⟨[], y :: ys, rfl, by simp [insertBy, h], nofun, by rintro z more ⟨⟩; exact h⟩
    · obtain ⟨front, back, split, put, behind, ahead⟩ := insertBy_split before x ys
      refine ⟨y :: front, back, by simp [split], by simp [insertBy, h, put], ?_, ahead⟩
      rintro z (_ | ⟨_, hz⟩)
      · simpa using h
      · exact behind z hz

/-! ### Offers and requests -/

/-- The three answers of the queue and when each is given (R78). -/
theorem offerResult_cases (s : State) (p : Party) :
    (s.offerResult p = .entered ∧ s.regs.enable = true ∧ s.fetch.queue.length < 32
        ∧ s.fetch.queuedCount[p] < 4)
      ∨ (s.offerResult p = .queueFull ∧ (s.regs.enable = false ∨ 32 ≤ s.fetch.queue.length))
      ∨ (s.offerResult p = .partyFull ∧ s.regs.enable = true ∧ s.fetch.queue.length < 32
        ∧ 4 ≤ s.fetch.queuedCount[p]) := by
  unfold State.offerResult
  simp only [Config.queuePlaces, Config.partyPlaces]
  cases h : s.regs.enable <;> simp
  by_cases hq : 32 ≤ s.fetch.queue.length
  · simp [hq]
  · by_cases hp : 4 ≤ s.fetch.queuedCount[p.val]
    · simp [hq, hp]; omega
    · simp [hq, hp]; omega

/-- A window's request enters the queue, or joins the window's offer list; nothing else happens (R58). -/
theorem windowRequest_cases (s : State) (a : Aud) (r : Request) :
    (s.offerResult r.party = .entered ∧ s.windowRequest a r = s.enqueue r)
      ∨ (s.offerResult r.party ≠ .entered
        ∧ s.windowRequest a r = s.updWindow a (fun w => { w with offers := w.offers ++ [r] })) := by
  unfold State.windowRequest
  cases h : s.offerResult r.party <;> simp

/-- A streamer's request enters the queue, or joins the streamer's offer list; nothing else happens (R121). -/
theorem streamerRequest_cases (s : State) (a : Aud) (r : Request) :
    (s.offerResult r.party = .entered ∧ s.streamerRequest a r = s.enqueue r)
      ∨ (s.offerResult r.party ≠ .entered
        ∧ s.streamerRequest a r = s.updStreamer a (fun u => { u with offers := u.offers ++ [r] })) := by
  unfold State.streamerRequest
  cases h : s.offerResult r.party <;> simp

/-- The Programme Unit's request is outstanding in the queue, or waits (R33). -/
theorem programmeBatch_cases (s : State) (a : Aud) (r : Request) :
    (s.offerResult r.party = .entered
        ∧ s.programmeBatch a r = (s.enqueue r).updProgramme a (fun p => { p with batch := .outstanding }))
      ∨ (s.offerResult r.party ≠ .entered
        ∧ s.programmeBatch a r = s.updProgramme a (fun p => { p with batch := .waiting r })) := by
  unfold State.programmeBatch
  cases h : s.offerResult r.party <;> simp

/-- A directory request changes the Exchange Unit and the queue alone (R182). -/
theorem directoryRequest_frame (s : State) (p : Party) (kind : DirectoryRead) :
    s.directoryRequest p kind = { s with
      fetch := (s.directoryRequest p kind).fetch, exchange := (s.directoryRequest p kind).exchange } := by
  unfold State.directoryRequest
  dsimp only
  cases (s.updParty p (fun x => { x with directoryRead := kind })).offerResult p <;> rfl

/-- Asking for a mirror write changes the Exchange Unit and the queue alone (R184). -/
theorem askMirrorWrite_frame (s : State) (p : Party) :
    s.askMirrorWrite p = { s with
      fetch := (s.askMirrorWrite p).fetch, exchange := (s.askMirrorWrite p).exchange } := by
  unfold State.askMirrorWrite
  cases (s.party p).mirrorWrite <;> dsimp only
  cases s.offerResult p <;> rfl

/-- After a mirror write is asked for, the party has one waiting or queued (R184). -/
theorem askMirrorWrite_asked (s : State) (p : Party) : ((s.askMirrorWrite p).party p).mirrorWrite ≠ .none := by
  unfold State.askMirrorWrite
  cases h : (s.party p).mirrorWrite <;> dsimp only
  · cases s.offerResult p <;> simp
  · simp [h]
  · simp [h]

/-- Asking for a mirror write leaves every other party as it is (R184). -/
theorem askMirrorWrite_party_other (s : State) {p q : Party} (h : q ≠ p) :
    (s.askMirrorWrite p).party q = s.party q := by
  unfold State.askMirrorWrite
  cases (s.party p).mirrorWrite <;> dsimp only
  cases s.offerResult p <;> simp [updParty_party_other _ _ h] <;> rfl

/-! ### Notice reasons and reports -/

/-- A notice reason changes the Exchange Unit and the queue alone (R185). -/
theorem raiseReason_frame (s : State) (p : Party) :
    s.raiseReason p = { s with
      fetch := (s.raiseReason p).fetch, exchange := (s.raiseReason p).exchange } :=
  askMirrorWrite_frame _ p

@[simp] theorem raiseReason_aud (s : State) (p : Party) (a : Aud) : (s.raiseReason p).aud a = s.aud a := by
  rw [raiseReason_frame]; rfl

@[simp] theorem raiseReason_auds (s : State) (p : Party) : (s.raiseReason p).auds = s.auds := by
  rw [raiseReason_frame]

@[simp] theorem raiseReason_regs (s : State) (p : Party) : (s.raiseReason p).regs = s.regs := by
  rw [raiseReason_frame]

@[simp] theorem raiseReason_pool (s : State) (p : Party) : (s.raiseReason p).pool = s.pool := by
  rw [raiseReason_frame]

@[simp] theorem raiseReason_devices (s : State) (p : Party) : (s.raiseReason p).devices = s.devices := by
  rw [raiseReason_frame]

@[simp] theorem raiseReason_incidents (s : State) (p : Party) : (s.raiseReason p).incidents = s.incidents := by
  rw [raiseReason_frame]

@[simp] theorem raiseReason_pending (s : State) (p : Party) : (s.raiseReason p).pending = s.pending := by
  rw [raiseReason_frame]

/-- After a notice reason a mirror write of the party is waiting or queued (R184). -/
theorem raiseReason_asked (s : State) (p : Party) : ((s.raiseReason p).party p).mirrorWrite ≠ .none :=
  askMirrorWrite_asked _ p

/-- A notice reason leaves every other party as it is (R185). -/
theorem raiseReason_party_other (s : State) {p q : Party} (h : q ≠ p) :
    (s.raiseReason p).party q = s.party q := by
  rw [State.raiseReason, askMirrorWrite_party_other _ h, updParty_party_other _ _ h]

/-- A report changes the incident records, the Exchange Unit and the queue alone (R192, R193). -/
theorem report_frame (s : State) (p : Party) (v : Severity) (k : IncidentCode) (address : Option HostAddr)
    (ordinal : Option Nat) :
    s.report p v k address ordinal = { s with
      fetch := (s.report p v k address ordinal).fetch
      exchange := (s.report p v k address ordinal).exchange
      incidents := (s.report p v k address ordinal).incidents } := by
  unfold State.report
  dsimp only
  split
  · rw [raiseReason_frame]; rfl
  · rfl

@[simp] theorem report_aud (s : State) (p : Party) (v : Severity) (k : IncidentCode)
    (address : Option HostAddr) (ordinal : Option Nat) (a : Aud) :
    (s.report p v k address ordinal).aud a = s.aud a := by
  rw [report_frame]; rfl

@[simp] theorem report_regs (s : State) (p : Party) (v : Severity) (k : IncidentCode)
    (address : Option HostAddr) (ordinal : Option Nat) :
    (s.report p v k address ordinal).regs = s.regs := by
  rw [report_frame]

@[simp] theorem report_pool (s : State) (p : Party) (v : Severity) (k : IncidentCode)
    (address : Option HostAddr) (ordinal : Option Nat) :
    (s.report p v k address ordinal).pool = s.pool := by
  rw [report_frame]

@[simp] theorem report_devices (s : State) (p : Party) (v : Severity) (k : IncidentCode)
    (address : Option HostAddr) (ordinal : Option Nat) :
    (s.report p v k address ordinal).devices = s.devices := by
  rw [report_frame]

@[simp] theorem report_pending (s : State) (p : Party) (v : Severity) (k : IncidentCode)
    (address : Option HostAddr) (ordinal : Option Nat) :
    (s.report p v k address ordinal).pending = s.pending := by
  rw [report_frame]

/-! ### Departures -/

/-- The contexts of an auditorium after a departure (R79). -/
@[simp] theorem depart_aud (s : State) (p : Party) (a : Aud) :
    (s.depart p).aud a = (s.aud a).toldOfDeparture p := by
  simp [State.depart, State.aud]

/-- A departure adds to the departure events of the three blocks of an auditorium, and changes nothing else (R79). -/
theorem toldOfDeparture_frame (x : Auditorium) (p : Party) : ∃ w b u,
    x.toldOfDeparture p = { x with
      window := { x.window with departures := x.window.departures ++ w }
      programme := { x.programme with departures := x.programme.departures ++ b }
      streamer := { x.streamer with departures := x.streamer.departures ++ u } } := by
  refine ⟨if x.window.offers.isEmpty then [] else [p],
    (match x.programme.batch with
      | .waiting _ => [p]
      | _ => []),
    if x.streamer.offers.isEmpty then [] else [p], ?_⟩
  unfold Auditorium.toldOfDeparture
  cases x.window.offers.isEmpty <;> cases x.streamer.offers.isEmpty <;> cases x.programme.batch <;> simp

/-! ### Blocks and entries freed -/

/-- A block's holder set leaves its cells, and every other block (R87). -/
theorem setHolder_get (q : Pool) (b d : BlockIx) (h : Option (Aud × EntryIx)) :
    (q.setHolder b h).blocks[d] = if d = b then { q.blocks[d] with holder := h } else q.blocks[d] := by
  unfold Pool.setHolder
  split
  · next e => subst e; exact vector_set_same _ _ _
  · next e => exact vector_set_other _ _ e

/-- The holders of a list of blocks set: the listed blocks have it, with their cells, and the others stand. -/
theorem setHolders_get (h : Option (Aud × EntryIx)) (d : BlockIx) : ∀ (bs : List BlockIx) (q : Pool),
    (bs.foldl (fun q b => q.setHolder b h) q).blocks[d]
      = if d ∈ bs then { q.blocks[d] with holder := h } else q.blocks[d]
  | [], q => by simp
  | b :: bs, q => by
    rw [List.foldl_cons, setHolders_get h d bs, setHolder_get]
    by_cases hb : d = b <;> by_cases hm : d ∈ bs <;> simp [hb, hm]

/-- The blocks after a release: the returned ones are free with their cells, and the others stand (R87). -/
theorem giveBack_get (q : Pool) (a : Aud) (bs : List BlockIx) (d : BlockIx) :
    (q.giveBack a bs).blocks[d]
      = if d ∈ bs then { q.blocks[d] with holder := none } else q.blocks[d] := by
  unfold Pool.giveBack
  cases bs with
  | nil => simp
  | cons b bs => exact setHolders_get none d (b :: bs) q

/-- The blocks after a grant: the granted ones are the entry's, with their cells, and the others stand (R86). -/
theorem grant_get (q : Pool) (a : Aud) (e : EntryIx) (bs : List BlockIx) (d : BlockIx) :
    (q.grant a e bs).blocks[d]
      = if d ∈ bs then { q.blocks[d] with holder := some (a, e) } else q.blocks[d] :=
  setHolders_get (some (a, e)) d bs q

/-- The entries of a window after some of them are freed (R53). -/
theorem foldl_setEntry_free (d : EntryIx) : ∀ (es : List EntryIx) (w : Window),
    (es.foldl (fun w e => w.setEntry e .free) w).entry d = if d ∈ es then .free else w.entry d
  | [], w => by simp
  | e :: es, w => by
    rw [List.foldl_cons, foldl_setEntry_free d es]
    by_cases he : d = e
    · subst he; simp
    · simp [he, setEntry_entry_other w .free he]

/-- The entries of an auditorium after some of them are freed (R53). -/
theorem freeEntries_entry (s : State) (a : Aud) (es : List EntryIx) (d : EntryIx) :
    ((s.freeEntries a es).aud a).window.entry d = if d ∈ es then .free else (s.aud a).window.entry d := by
  rw [← foldl_setEntry_free d es (s.aud a).window]
  simp [State.freeEntries, State.updWindow, State.aud, State.setAud, Window.entry]

/-- Entries freed leave every other auditorium (R53). -/
theorem freeEntries_aud_other (s : State) {a b : Aud} (es : List EntryIx) (h : b ≠ a) :
    (s.freeEntries a es).aud b = s.aud b :=
  aud_setAud_other s _ h

/-- An entry made READY: it leaves the wait list, its ready event goes to the block of its kind, and nothing else
happens (R53, R66). -/
theorem entryReady_eq (s : State) (a : Aud) (e : EntryIx) (c : EntryCue) :
    s.entryReady a e c = s.setAud a { s.aud a with
      window := { (s.aud a).window with
        entries := (s.aud a).window.entries.set e (.judged .ready c)
        poolWait := (s.aud a).window.poolWait.filter (fun x => decide (x ≠ e)) }
      release := { (s.aud a).release with
        readies := (s.aud a).release.readies ++ (if c.kind = .audio then [] else [c.ordinal]) }
      streamer := { (s.aud a).streamer with
        readies := (s.aud a).streamer.readies ++ (if c.kind = .audio then [c.ordinal] else []) } } := by
  unfold State.entryReady
  cases h : c.kind <;> simp [State.updWindow, State.updStreamer, State.updRelease, Window.setEntry]

/-- An entry taken off by a leave is freed: alone, with the records behind a FETCHING one judged after it (R41), or after
what an ACTIVE one still had on the pages and the streams is cleared (R66, R95). -/
theorem leaveEntry_cases (s : State) (a : Aud) (e : EntryIx) (ordinal : Nat) :
    (s.leaveEntry a e ordinal = s.freeEntries a [e] ∧ (∀ o address r, (s.aud a).window.entry e ≠ .fetching o address r)
        ∧ ∀ c, (s.aud a).window.entry e ≠ .judged .active c)
      ∨ (s.leaveEntry a e ordinal = (s.freeEntries a [e]).judgeWaiting a 64
        ∧ ∃ o address r, (s.aud a).window.entry e = .fetching o address r)
      ∨ (s.leaveEntry a e ordinal = (s.clearCue a ordinal).freeEntries a [e]
        ∧ ∃ c, (s.aud a).window.entry e = .judged .active c) := by
  unfold State.leaveEntry
  cases h : (s.aud a).window.entry e with
  | free => simp
  | fetching => simp
  | judged stage c => cases stage <;> simp

/-! ### A stream context's fetch -/

/-- With no fetch carriage no carriage stands behind it. -/
@[simp] theorem behindFetch_of_none {x : Stream} (h : x.fetch = none) : x.behindFetch = [] := by
  simp [Stream.behindFetch, h]

/-- With no fetch carriage nothing of any carriage is left to fetch (R119). -/
@[simp] theorem unfetchedFrom_of_none {x : Stream} (h : x.fetch = none) (y : Carriage) :
    x.unfetchedFrom y = y.stop := by
  simp [Stream.unfetchedFrom, h]

/-- The fetch carriage's indices are unfetched from the next fetch index on (R115). -/
theorem unfetchedFrom_of_fetch {x : Stream} {y : Carriage} (h : x.fetch = some y.ordinal) :
    x.unfetchedFrom y = x.nextIndex := by
  simp [Stream.unfetchedFrom, h]

/-- A drop takes exactly the entries it names out of the queue and leaves the fetch carriage (R123, R125, R126). -/
theorem drop_stream (x : Stream) (gone : PacketEntry → Bool) (lowest bound : Nat) :
    (x.drop gone lowest bound).stream.queue = x.queue.filter (fun p => !gone p)
      ∧ (x.drop gone lowest bound).stream.cues = x.cues ∧ (x.drop gone lowest bound).stream.fetch = x.fetch := by
  unfold Stream.drop Stream.moveTo
  dsimp only
  split <;> simp

/-! ### Leaves, rows and the lane's events -/

/-- A leave handed to the window is at the end of its leaves, and nothing else happens (R66). -/
theorem handLeave_eq (s : State) (a : Aud) (e : EntryIx) (ordinal : Nat) :
    s.handLeave a e ordinal = s.setAud a { s.aud a with
      window := { (s.aud a).window with leaves := (s.aud a).window.leaves ++ [⟨e, ordinal⟩] } } := rfl

/-- A row changed: its auditorium's pages change in that row alone, and the lane in its dirty list alone (R96). -/
theorem changeRow_frame (s : State) (a : Aud) (c : Chan) (r : RowIx) (cells : Vector Cell 40)
    (owner : Option RowOwner) (dirty : Bool) : ∃ more,
    s.changeRow a c r cells owner dirty = s.setAud a { s.aud a with
      release := (s.aud a).release.setRow c r ((s.aud a).release.pages[c][r].change cells owner)
      lane := { (s.aud a).lane with dirty := (s.aud a).lane.dirty ++ more } } := by
  unfold State.changeRow
  cases dirty
  · exact ⟨[], by simp [State.updRelease]⟩
  · dsimp only [if_true]
    by_cases h : (s.aud a).lane.state = .off ∨ (c, r) ∈ (s.aud a).lane.dirty
    · exact ⟨[], by simp [State.updLane, State.updRelease, Lane.dirtyEvent, h]⟩
    · exact ⟨[(c, r)], by simp [State.updLane, State.updRelease, Lane.dirtyEvent, h]⟩

/-- The rows that a cue owns, blanked: its auditorium's pages and its lane's dirty list change, and nothing else
(R96, R106). -/
theorem blankOwned_frame (s : State) (a : Aud) (ordinal : Nat) :
    s.blankOwned a ordinal = s.setAud a { s.aud a with
      release := { (s.aud a).release with pages := ((s.blankOwned a ordinal).aud a).release.pages }
      lane := { (s.aud a).lane with dirty := ((s.blankOwned a ordinal).aud a).lane.dirty } } := by
  unfold State.blankOwned
  refine foldl_keeps (fun s t => t = s.setAud a { s.aud a with
    release := { (s.aud a).release with pages := (t.aud a).release.pages }
    lane := { (s.aud a).lane with dirty := (t.aud a).lane.dirty } }) (fun s => (setAud_self s a).symm) ?_ _ ?_ _ _
  · intro s t u ht hu
    rw [hu, ht]
    simp
  · rintro s ⟨c, r⟩
    have h := changeRow_frame s a c r Row.blankCells none true
    dsimp only
    split
    · split
      · obtain ⟨more, h⟩ := h
        rw [State.blankRow, h]
        simp [Release.setRow]
      · exact (setAud_self s a).symm
    · exact (setAud_self s a).symm

/-- The carriages of an ordinal stopped: its auditorium's stream contexts and buffer count change, and nothing else
(R67, R127). -/
theorem stopOrdinal_frame (s : State) (a : Aud) (ordinal : Nat) :
    s.stopOrdinal a ordinal = s.setAud a { s.aud a with
      streamer := { (s.aud a).streamer with
        streams := ((s.stopOrdinal a ordinal).aud a).streamer.streams
        bufferCount := ((s.stopOrdinal a ordinal).aud a).streamer.bufferCount } } := by
  unfold State.stopOrdinal
  refine foldl_keeps (fun s t => t = s.setAud a { s.aud a with
    streamer := { (s.aud a).streamer with
      streams := (t.aud a).streamer.streams, bufferCount := (t.aud a).streamer.bufferCount } })
    (fun s => (setAud_self s a).symm) ?_ _ ?_ _ _
  · intro s t u ht hu
    rw [hu, ht]
    simp
  · intro s c
    simp [State.setStream, State.updStreamer]

/-- What is cleared of a cue whose ACTIVE entry a leave frees: pages, dirty list and streams alone (R67, R95). -/
theorem clearCue_frame (s : State) (a : Aud) (ordinal : Nat) :
    s.clearCue a ordinal = s.setAud a { s.aud a with
      release := { (s.aud a).release with pages := ((s.clearCue a ordinal).aud a).release.pages }
      lane := { (s.aud a).lane with dirty := ((s.clearCue a ordinal).aud a).lane.dirty }
      streamer := { (s.aud a).streamer with
        streams := ((s.clearCue a ordinal).aud a).streamer.streams
        bufferCount := ((s.clearCue a ordinal).aud a).streamer.bufferCount } } := by
  unfold State.clearCue
  dsimp only
  split
  · rw [stopOrdinal_frame, blankOwned_frame]
    simp
  · rw [blankOwned_frame]
    simp

/-- A reply event changes the lane's replies and the counters of its auditorium alone (R144). -/
theorem replyEvent_frame (s : State) (a : Aud) (r : Reply) :
    s.replyEvent a r = s.setAud a { s.aud a with
      lane := { (s.aud a).lane with replies := ((s.replyEvent a r).aud a).lane.replies }
      counters := ((s.replyEvent a r).aud a).counters } := by
  unfold State.replyEvent
  dsimp only
  split
  · exact (setAud_self s a).symm
  · split
    · simp [State.updLane]
    · simp [State.bump]

/-! ### A stream context's losses and its settling -/

/-- A drop moves the next fetch index past the unfetched indices it names, and not at all where it names none (R123,
R125, R126). -/
theorem drop_nextIndex (x : Stream) (gone : PacketEntry → Bool) (lowest bound : Nat) :
    (x.drop gone lowest bound).stream.nextIndex
      = if x.passedTo lowest < x.passedTo bound then x.passedTo bound else x.nextIndex := by
  unfold Stream.drop Stream.moveTo
  dsimp only
  by_cases h : x.passedTo lowest < x.passedTo bound
  · rw [if_neg (by omega), if_pos h]
  · rw [if_pos (by omega), if_neg h]

@[simp] theorem settled_cues (x : Stream) (w : Window) :
    (x.settled w).cues = x.cues.filter (fun y => !x.isComplete y) := by
  unfold Stream.settled Stream.fetching
  dsimp only
  repeat' split
  all_goals rfl

@[simp] theorem settled_queue (x : Stream) (w : Window) : (x.settled w).queue = x.queue := by
  unfold Stream.settled Stream.fetching
  dsimp only
  repeat' split
  all_goals rfl

@[simp] theorem settled_batchOut (x : Stream) (w : Window) : (x.settled w).batchOut = x.batchOut := by
  unfold Stream.settled Stream.fetching
  dsimp only
  repeat' split
  all_goals rfl

@[simp] theorem afterLoss_queue (x : Stream) (reports : Bool) (lowest bound : Nat) :
    (x.afterLoss reports lowest bound).queue
      = x.queue.filter (fun p => !decide (lowest ≤ p.presentation ∧ p.presentation < bound)) := by
  unfold Stream.afterLoss
  dsimp only
  split <;> rfl

@[simp] theorem afterLoss_fetch (x : Stream) (reports : Bool) (lowest bound : Nat) :
    (x.afterLoss reports lowest bound).fetch = x.fetch := by
  unfold Stream.afterLoss
  dsimp only
  split <;> rfl

@[simp] theorem afterLoss_batchOut (x : Stream) (reports : Bool) (lowest bound : Nat) :
    (x.afterLoss reports lowest bound).batchOut = x.batchOut := by
  unfold Stream.afterLoss
  dsimp only
  split <;> rfl

/-! ### The tracker's event on the machine -/

/-- An event of a tracker context touches its own auditorium, and beyond it only the report of a changed state (R27,
R28). -/
theorem commitTracker_aud_other (s : State) {a b : Aud} (ev : TrackerEvent) (h : b ≠ a) :
    (s.commitTracker a ev).aud b = s.aud b := by
  unfold State.commitTracker State.handOrder
  rcases ev with ⟨t, o, n, m⟩
  cases o with
  | none => dsimp only; split <;> simp [State.bump, State.updTracker, aud_setAud_other _ _ h]
  | some o =>
    cases o <;> dsimp only <;> split <;>
      simp [State.bump, State.updTracker, State.updRelease, State.updStreamer, State.updWindow,
        aud_setAud_other _ _ h]

end Sys2Proof.Machine
end

