-- ==== Sys2Proof/WellFormed.lean ====
section
/-! DEFINITION. Which commands the outside can really give: the operand checks that the operand types do not
already make. Every command has a meaning all the same; these are the conditions under which a command is
the row it is named for. -/

namespace Sys2Proof

/-- The answer is one a read can get: a read carries 1 to 512 bytes (R76). -/
def BusAnswer.wellFormed : BusAnswer → Bool
  | .data bytes => decide (1 ≤ bytes.length) && decide (bytes.length ≤ 512)
  | .busError => true

/-- The operands are those of the row: an ENABLE writes KCTL with bit 0 set and a DISABLE with bit 0 clear
(R186), and a bus answer carries 1 to 512 bytes (R76). Every other operand is in range by its type. -/
def Instr.wellFormed : Instr → Bool
  | .enable value => value.getLsbD 0
  | .disable value => !value.getLsbD 0
  | .readCompletion _ answer => answer.wellFormed
  | .powerOn => true
  | .kcall _ => true
  | .knoteClear _ => true
  | .knotemaskWrite _ => true
  | .registerWrite _ _ => true
  | .timecodeWordArrival _ => true
  | .trackerLocalTick _ => true
  | .lossExpiry _ => true
  | .holdExpiry _ => true
  | .windowSeekOrder _ => true
  | .tableReady _ => true
  | .releaseSeekOrder _ => true
  | .releaseSeekHandOver _ => true
  | .releaseCatchUpOrder _ => true
  | .releaseHoldOrder _ => true
  | .releaseTickCheck _ => true
  | .releaseReadyCheck _ => true
  | .streamSeekOrder _ => true
  | .streamSeekHandOver _ => true
  | .streamCatchUpOrder _ => true
  | .streamHoldOrder _ => true
  | .streamTickCheck _ => true
  | .streamReadyOpen _ => true
  | .packetRequest _ _ => true
  | .tableBatchRequest _ _ => true
  | .windowLeave _ => true
  | .refill _ => true
  | .retirement _ => true
  | .requestIssue => true
  | .offerAfterDeparture _ => true
  | .readTimeout _ => true
  | .poolRetryRound => true
  | .drained _ => true
  | .scanTimerExpiry _ => true
  | .mirrorTimerExpiry _ => true
  | .laneFrame _ => true
  | .laneSweep _ => true
  | .deviceSweep => true
  | .incidentSweep => true
  | .uplinkArrival _ _ => true
  | .join => true
  | .alive => true
  | .repeatRows => true
  | .leave => true
  | .timecodeLineByte _ _ => true

end Sys2Proof
end

