-- ==== Sys2Proof/Laws/PerInstr.lean ====
section
/-! SUPPORT. The family of facts about every command as syntax: only three rows have an operand that can be out of
their range (R76, R186), and every other command is well-formed whatever its operands are. -/

namespace Sys2Proof.Laws.Commands

/-- The command is one of the three rows with an operand to check, or it is well-formed. -/
def Statement (i : Instr) : Prop :=
  (∃ v, i = .enable v) ∨ (∃ v, i = .disable v) ∨ (∃ tag answer, i = .readCompletion tag answer)
    ∨ i.wellFormed = true

theorem powerOn : Statement .powerOn := .inr (.inr (.inr rfl))
theorem enable (value : Word) : Statement (.enable value) := .inl ⟨value, rfl⟩
theorem disable (value : Word) : Statement (.disable value) := .inr (.inl ⟨value, rfl⟩)
theorem kcall (value : Word) : Statement (.kcall value) := .inr (.inr (.inr rfl))
theorem knoteClear (value : Word) : Statement (.knoteClear value) := .inr (.inr (.inr rfl))
theorem knotemaskWrite (value : Word) : Statement (.knotemaskWrite value) := .inr (.inr (.inr rfl))
theorem registerWrite (reg : PlainRegister) (value : Word) : Statement (.registerWrite reg value) := .inr (.inr (.inr rfl))
theorem timecodeWordArrival (a : Aud) : Statement (.timecodeWordArrival a) := .inr (.inr (.inr rfl))
theorem trackerLocalTick (a : Aud) : Statement (.trackerLocalTick a) := .inr (.inr (.inr rfl))
theorem lossExpiry (a : Aud) : Statement (.lossExpiry a) := .inr (.inr (.inr rfl))
theorem holdExpiry (a : Aud) : Statement (.holdExpiry a) := .inr (.inr (.inr rfl))
theorem windowSeekOrder (a : Aud) : Statement (.windowSeekOrder a) := .inr (.inr (.inr rfl))
theorem tableReady (a : Aud) : Statement (.tableReady a) := .inr (.inr (.inr rfl))
theorem releaseSeekOrder (a : Aud) : Statement (.releaseSeekOrder a) := .inr (.inr (.inr rfl))
theorem releaseSeekHandOver (a : Aud) : Statement (.releaseSeekHandOver a) := .inr (.inr (.inr rfl))
theorem releaseCatchUpOrder (a : Aud) : Statement (.releaseCatchUpOrder a) := .inr (.inr (.inr rfl))
theorem releaseHoldOrder (a : Aud) : Statement (.releaseHoldOrder a) := .inr (.inr (.inr rfl))
theorem releaseTickCheck (a : Aud) : Statement (.releaseTickCheck a) := .inr (.inr (.inr rfl))
theorem releaseReadyCheck (a : Aud) : Statement (.releaseReadyCheck a) := .inr (.inr (.inr rfl))
theorem streamSeekOrder (a : Aud) : Statement (.streamSeekOrder a) := .inr (.inr (.inr rfl))
theorem streamSeekHandOver (a : Aud) : Statement (.streamSeekHandOver a) := .inr (.inr (.inr rfl))
theorem streamCatchUpOrder (a : Aud) : Statement (.streamCatchUpOrder a) := .inr (.inr (.inr rfl))
theorem streamHoldOrder (a : Aud) : Statement (.streamHoldOrder a) := .inr (.inr (.inr rfl))
theorem streamTickCheck (a : Aud) : Statement (.streamTickCheck a) := .inr (.inr (.inr rfl))
theorem streamReadyOpen (a : Aud) : Statement (.streamReadyOpen a) := .inr (.inr (.inr rfl))
theorem packetRequest (a : Aud) (c : Chan) : Statement (.packetRequest a c) := .inr (.inr (.inr rfl))
theorem tableBatchRequest (a : Aud) (c : Chan) : Statement (.tableBatchRequest a c) := .inr (.inr (.inr rfl))
theorem windowLeave (a : Aud) : Statement (.windowLeave a) := .inr (.inr (.inr rfl))
theorem refill (a : Aud) : Statement (.refill a) := .inr (.inr (.inr rfl))
theorem retirement (a : Aud) : Statement (.retirement a) := .inr (.inr (.inr rfl))
theorem requestIssue : Statement .requestIssue := .inr (.inr (.inr rfl))
theorem offerAfterDeparture (b : OfferBlock) : Statement (.offerAfterDeparture b) := .inr (.inr (.inr rfl))
theorem readCompletion (tag : Nat) (answer : BusAnswer) : Statement (.readCompletion tag answer) := .inr (.inr (.inl ⟨tag, answer, rfl⟩))
theorem readTimeout (tag : Nat) : Statement (.readTimeout tag) := .inr (.inr (.inr rfl))
theorem poolRetryRound : Statement .poolRetryRound := .inr (.inr (.inr rfl))
theorem drained (a : Aud) : Statement (.drained a) := .inr (.inr (.inr rfl))
theorem scanTimerExpiry (p : Party) : Statement (.scanTimerExpiry p) := .inr (.inr (.inr rfl))
theorem mirrorTimerExpiry (p : Party) : Statement (.mirrorTimerExpiry p) := .inr (.inr (.inr rfl))
theorem laneFrame (a : Aud) : Statement (.laneFrame a) := .inr (.inr (.inr rfl))
theorem laneSweep (a : Aud) : Statement (.laneSweep a) := .inr (.inr (.inr rfl))
theorem deviceSweep : Statement .deviceSweep := .inr (.inr (.inr rfl))
theorem incidentSweep : Statement .incidentSweep := .inr (.inr (.inr rfl))
theorem uplinkArrival (a : Aud) (message : Vector Byte 8) : Statement (.uplinkArrival a message) := .inr (.inr (.inr rfl))
theorem join : Statement .join := .inr (.inr (.inr rfl))
theorem alive : Statement .alive := .inr (.inr (.inr rfl))
theorem repeatRows : Statement .repeatRows := .inr (.inr (.inr rfl))
theorem leave : Statement .leave := .inr (.inr (.inr rfl))
theorem timecodeLineByte (a : Aud) (byte : Byte) : Statement (.timecodeLineByte a byte) := .inr (.inr (.inr rfl))

end Sys2Proof.Laws.Commands
end

