-- ==== Sys2Proof/Tests/Slice0.lean ====
section
/-! SUPPORT. Tests of the model: ill-formed commands refused, figures of the manual's worked examples, and for every
statement with hypotheses states and operands that meet them. Expected values are the manual's or hand-worked from
it. -/

namespace Sys2Proof.Tests

/- One theorem at a time: a waiting kernel evaluation holds a thread with its stack. -/
set_option Elab.async false

open Sys2Proof.Machine

/-! ### Small states -/

/-- The part enabled, with nothing else done. -/
def on : State := { State.reset with regs := { Registers.reset with enable := true } }

/-- The enabled part with auditorium 0's contexts given. -/
def part (x : Auditorium) : State := on.setAud 0 x

/-- An auditorium in SHOW. -/
def showing : Auditorium := { Auditorium.reset with state := .show }

/-- A LOCKED tracker at a position. -/
def lockedAt (p : Nat) : Tracker := { Tracker.reset with state := .locked, est := ⟨p, 0⟩, lossTimer := some 0 }

/-- A segment of 100 records, with first and last starts of 0 and 500 ticks. -/
def segment0 : Segment := ⟨0x1000#64, 100, 0, 10, 0, 500⟩

/-- A cue of 100 ticks from 1000 ticks on. -/
def cue (kind : CueKind) : EntryCue where
  ordinal := 7
  start := 1000
  finish := 1100
  kind := kind
  trackMask := 1
  classFlags := 0
  firstRow := 0
  lines := 1
  reference := 0x8000#64
  count := 4
  blocks := []
  head := 0
  tableHead := []
  resumed := false
  catchUp := false

/-- A SERVING window with the cursor at record 3 of segment 0, and one entry given. -/
def serving (e : Entry) : Window :=
  { Window.reset with
    state := .serving, cursor := some (0, 3), readyTaken := true
    entries := (Vector.replicate 64 Entry.free).set 5 e }

/-- An auditorium in SHOW at P = 2000 with a SERVING window. -/
def playing (e : Entry) : Auditorium :=
  { showing with
    tracker := lockedAt 2000, window := serving e
    programme := { Programme.reset with tableState := .complete, table := [segment0], segmentCount := 1 } }

/-- A request of a slot for text, with the tags of `on`. -/
def textRequest : Request where
  party := Party.slot 0
  purpose := .text
  requester := .windowEntry 5
  ordinal := some 7
  attachTag := some 0
  seekTag := some 0
  epochTag := 0
  address := 0x8000#64
  length := 80
  terms := .near 1000

/-- A check of the state that a command answers. -/
def answers (r : Result) (test : State → Bool) : Bool :=
  match r with
  | .next t => test t
  | _ => false

/-- A timecode word of a rate and a time, with its check. -/
def word (rate h m s f : Byte) : Vector Byte 8 := #v[0xA5, rate, h, m, s, f, 0, 0xA5 + rate + h + m + s + f]

/-! ### WellFormed and the table's words -/

theorem test_enable_needs_bit_0 : (Instr.enable 2).wellFormed = false := by decide
theorem test_disable_needs_bit_0_clear : (Instr.disable 3).wellFormed = false := by decide
theorem test_answer_needs_a_byte : (Instr.readCompletion 0 (.data [])).wellFormed = false := by decide
theorem test_answer_of_at_most_512_bytes :
    (Instr.readCompletion 0 (.data (List.replicate 513 0))).wellFormed = false := by decide +kernel
theorem test_answer_of_512_bytes :
    (Instr.readCompletion 0 (.data (List.replicate 512 0))).wellFormed = true := by decide +kernel
theorem test_no_word_spells_a_command : decodeTableWord 32 1 = none := rfl

/-! ### Worked examples of the manual -/

/-- R8's example: 01:02:03:12 at 24 fps with offset +3 is 4,468,203 ticks. -/
theorem test_conversion : timecodePosition (readTimecode (word 0 1 2 3 12)) 3 = 4468203 := by decide

/-- The slew example of chapter 1. -/
theorem test_slew :
    let t := { Tracker.reset with
      state := .locked, est := ⟨4468199, 32768⟩, trim := 5, lastTc := some 4468153, lossTimer := some 49
      tcOffset := 3 }
    let u := (t.arrive 4468203 50).tracker
    u.state = .locked ∧ u.est = ⟨4468200, 16384⟩ ∧ u.trim = 6 ∧ u.lastTc = some 4468203 ∧ u.repeats = 0
      ∧ u.lossTimer = some 0 ∧ u.localTick.tracker.est = ⟨4468201, 16390⟩
      ∧ u.localTick.tracker.lossTimer = some 1 := by decide

/-- The catch-up example of chapter 1. -/
theorem test_catch_up :
    let t := { Tracker.reset with
      state := .locked, est := ⟨4500000, 10000⟩, trim := -2, lastTc := some 4499950, lossTimer := some 49 }
    let ev := t.arrive (timecodePosition (readTimecode (word 0 1 2 30 2)) 0) 50
    ev.tracker.est = ⟨4500100, 0⟩ ∧ ev.tracker.trim = -2 ∧ ev.order = some (.catchUp 4500000 4500100)
      ∧ ev.slips = 1 ∧ ev.seeks = 0 := by decide

/-- The seek example of chapter 1. -/
theorem test_seek :
    let t := { Tracker.reset with
      state := .freewheel, est := ⟨4500230, 20000⟩, lastTc := some 4500150, holdTimer := some 3
      seekGen := 0x0011 }
    let ev := t.arrive 4500200 50
    ev.tracker.state = .locked ∧ ev.tracker.est = ⟨4500200, 0⟩ ∧ ev.tracker.seekGen = 0x0012
      ∧ ev.order = some (.seek 4500200 0x0012) ∧ ev.tracker.holdTimer = none := by decide

/-- The pause example of chapter 1: the second repeat pauses at the word's position. -/
theorem test_pause :
    let t := { Tracker.reset with
      state := .locked, est := ⟨4500349, 60600⟩, repeats := 1, lastTc := some 4500250, lossTimer := some 50 }
    let u := (t.arrive 4500250 50).tracker
    u.state = .paused ∧ u.est = ⟨4500250, 0⟩ ∧ u.repeats = 2 := by decide

/-- The loss example of chapter 1: at tick 150 FREEWHEEL with P 2,000,150, at tick 2550 HELD with a hold order. -/
theorem test_loss_and_hold :
    let t := { Tracker.reset with state := .locked, est := ⟨2000149, 0⟩, lossTimer := some 149 }
    let u := { Tracker.reset with state := .freewheel, est := ⟨2002549, 0⟩, holdTimer := some 2399 }
    t.localTick.tracker.state = .freewheel ∧ t.localTick.tracker.est = ⟨2000150, 0⟩
      ∧ t.localTick.tracker.holdTimer = some 0 ∧ u.localTick.tracker.state = .held
      ∧ u.localTick.tracker.est = ⟨2002550, 0⟩ ∧ u.localTick.order = some .hold := by decide

/-- The example of chapter 2: descriptor 18 starts below descriptor 17's last start. -/
theorem test_descriptor_order :
    (SegmentDesc.mk 0x9000#64 10 41000 42000).bad (some ⟨0x8000#64, 10, 41000, 41200, 0, 0⟩) = true := by decide

/-- The records of chapter 2's example, at 48 ticks an edit unit: the audio cue of 2000 packets, the disordered
CLEAR, the odd text reference and the text cue with duration and lines 0. -/
theorem test_records :
    (match (CueRecord.mk 75010 0 (some .audio) 1 0 0 0 0x1000#64 2000).judge 1 (some 3600000) 4197 with
      | .taken c n => decide (c.start = 3600480 ∧ c.finish = 3636480 ∧ c.count = 1500 ∧ n = 1)
      | _ => false) = true
    ∧ (CueRecord.mk 75005 0 (some .clear) 1 0 0 1 0 0).judge 1 (some 3600480) 4198 = .disordered
    ∧ (CueRecord.mk 75015 10 (some .text) 1 0 0 1 0x1A0006F3#64 0).judge 1 (some 3600480) 4199 = .bad
    ∧ (match (CueRecord.mk 75020 0 (some .text) 1 0 0 0 0x1000#64 0).judge 1 (some 3600480) 4200 with
      | .taken c n => decide (c.start = 3600960 ∧ c.finish = 3601008 ∧ c.lines = 1 ∧ n = 2)
      | _ => false) = true := by decide

/-- The retirement example of chapter 2: the retired floor and the two seeks back with mark 2 of three segments. -/
theorem test_retired_floor :
    let p := { Programme.reset with
      table := [⟨0x1000#64, 9, 0, 14000, 0, 700000⟩, ⟨0x2000#64, 9, 14400, 30000, 720000, 1500000⟩,
        ⟨0x3000#64, 9, 30200, 50000, 1510000, 2500000⟩]
      retireMark := 2 }
    p.retiredFloor = some 1510000 ∧ p.retiredSeek 1509999 = true ∧ p.retiredSeek 1510000 = false := by decide

/-- The resume example of chapter 6: the head index is 343. -/
theorem test_head_index : firstTimely 4468205 4460000 = 343 := by decide

/-- The cell of chapter 5's example, on a G512 channel with overrides and on a plain G256 channel. -/
theorem test_cell :
    let d := { ChannelDescriptor.reset with
      kind := .text, glyphMode := .g512, fgEnable := true, fgValue := 15, bgEnable := true }
    decodeCell d ⟨0x41, 0x1A⟩ = ⟨321, 15, 0, false⟩
      ∧ decodeCell { ChannelDescriptor.reset with kind := .text } ⟨0x41, 0x1A⟩ = ⟨65, 10, 1, false⟩ := by
  decide

/-- The cut of chapter 6's preemption example: X keeps indices 0..41. -/
theorem test_preempt_cut :
    ((Carriage.mk 800 0 2000000 0 100 false false).cut 2001000).stop = 42 := by decide

/-! ### States and operands that meet the statements' hypotheses

One theorem for each statement with hypotheses, clause by clause, at boundary values where a clause has a range. -/

theorem test_meets_StepTakesFront :
    { State.reset with pending := [Instr.powerOn, .join] }.pending = .powerOn :: [.join]
      ∧ State.reset.pending = [] := by decide

/-- The enabled part with one read in flight, its timer given, and a scan and a mirror timer running. -/
def ticking (timer scan mirror : Nat) : State :=
  { on.updParty 0 (fun x => { x with scanTimer := some scan, mirrorTimer := some mirror }) with
    fetch := { FetchEngine.reset with inFlight := [⟨0, on.halfRead 0, timer⟩], nextTag := 1 } }

theorem test_meets_IdleStepRunsTheTimers :
    (ticking 6 118 298).pending = [] ∧ ((ticking 6 118 298).fetch.inFlight.map Flight.tag).Nodup
      ∧ (∀ p : Party, (((ticking 7 118 298).party p).scanTimer.all (fun n => decide (n + 1 < 120))) = true
        ∧ (((ticking 7 118 298).party p).mirrorTimer.all (fun n => decide (n + 1 < 300))) = true)
      ∧ answers (step (ticking 6 118 298)) (fun t => t.fetch.inFlight.length == 1) = true
      ∧ answers (step (ticking 7 118 298)) (fun t => t.fetch.inFlight.isEmpty) = true
      ∧ answers (step (ticking 6 119 299)) (fun t => decide ((t.party 0).directoryRead = .scan)
          && decide ((t.party 0).mirrorWrite = .queued) && (t.party 0).scanTimer == some 0
          && (t.party 0).mirrorTimer == some 0) = true := by decide +kernel

/-- Every hypothesis at once, at the state after reset. -/
theorem test_meets_AbsentEventsChangeNothing :
    let x := State.reset.aud 0
    x.line.framed = [] ∧ x.tracker.lossDue = false ∧ x.tracker.holdDue = false ∧ x.window.orders = []
      ∧ x.window.readyEvent = false ∧ x.window.leaves = [] ∧ x.release.orders = [] ∧ x.release.handOvers = []
      ∧ x.release.readies = [] ∧ x.streamer.orders = [] ∧ x.streamer.handOvers = [] ∧ x.streamer.readies = []
      ∧ x.window.departures = [] ∧ x.programme.departures = [] ∧ x.streamer.departures = []
      ∧ State.reset.exchange.departures = [] ∧ State.reset.fetch.drained[(0 : Fin 16)] = false
      ∧ State.reset.pool.roundsOwed = 0 ∧ (State.reset.party 0).scanTimer = none
      ∧ (State.reset.party 0).mirrorTimer = none ∧ State.reset.nextMessage = none := by decide

theorem test_meets_PartStartsAndStops_enable :
    (0 : Word).getLsbD 0 = State.reset.regs.enable ∧ State.reset.regs.enable = false
      ∧ (1 : Word).getLsbD 0 = true := by decide

theorem test_meets_PartStartsAndStops_disable : on.regs.enable = true ∧ (0xFFFFFFFE : Word).getLsbD 0 = false := by
  decide

/-- The part enabled and called for the site. -/
def scanningSite : State := on.updParty Party.site (fun x => { x with directoryRead := .scan })

theorem test_meets_CallsTimersAndNotices_calls :
    16 < (17 : Word).toNat ∧ State.reset.regs.enable = false ∧ (16 : Word).toNat = Party.site.val
      ∧ on.regs.enable = true ∧ (on.party Party.site).directoryRead = .none
      ∧ (scanningSite.party Party.site).directoryRead ≠ .none := by decide

theorem test_meets_RegistersAndInterruptLine :
    on.regs.enable = true ∧ State.reset.regs.enable = false ∧ State.reset.regs.kxbase &&& 0x3FFF#64 = 0 := by
  decide

/-- The part with a mirror write of slot 0 in the queue. -/
def mirrorQueued : State := on.askMirrorWrite 0

theorem test_meets_CallsTimersAndNotices_notices :
    (mirrorQueued.party 0).mirrorWrite ≠ .none ∧ (on.party 0).mirrorWrite = .none
      ∧ on.offerResult 0 = .entered ∧ (State.reset.party 0).mirrorWrite = .none
      ∧ State.reset.offerResult 0 ≠ .entered := by decide

theorem test_meets_CallsTimersAndNotices_timers :
    (State.reset.party 0).scanTimer = none ∧ (State.reset.party 0).mirrorTimer = none
      ∧ (State.reset.start.party 16).scanTimer = some 7
      ∧ ((on.setMirrorTimer 0 (some 299)).party 0).mirrorTimer = some 299
      ∧ (on.setMirrorTimer 0 (some 299)).offerResult 0 = .entered
      ∧ (State.reset.setMirrorTimer 0 (some 299)).offerResult 0 ≠ .entered
      ∧ (on.party 0).mirrorWrite = .none ∧ (mirrorQueued.party 0).mirrorWrite ≠ .none := by decide

theorem test_meets_TimecodeReachesTracker_line :
    let l (k : Nat) : Auditorium := { Auditorium.reset with line := ⟨List.replicate k 0xA5, []⟩ }
    ((part (l 0)).aud 0).line.partialWord = [] ∧ (0xA4 : Byte) ≠ 0xA5#8
      ∧ ((part (l 1)).aud 0).line.partialWord ≠ [] ∧ ((part (l 6)).aud 0).line.partialWord.length ≠ 7
      ∧ ((part (l 7)).aud 0).line.partialWord.length = 7 := by decide

/-- An auditorium in SHOW with a framed word. -/
def framed (w : Vector Byte 8) : Auditorium := { showing with line := ⟨[], [w]⟩ }

theorem test_meets_TimecodeReachesTracker_words :
    (State.reset.aud 0).line.framed = [] ∧ ({ framed (word 5 23 59 59 59) with state := .closing }).state ≠ .show
      ∧ ((part (framed (word 5 23 59 59 59))).aud 0).line.framed = [word 5 23 59 59 59]
      ∧ ((part (framed (word 5 23 59 59 59))).aud 0).state = .show
      ∧ timecodeValid (word 5 23 59 59 59) = true ∧ timecodeValid (word 6 0 0 0 0) = false
      ∧ timecodeValid (word 0 24 0 0 0) = false ∧ timecodeValid (word 0 0 60 0 0) = false
      ∧ timecodeValid (word 0 0 0 60 0) = false ∧ timecodeValid (word 0 0 0 0 24) = false
      ∧ timecodeValid #v[0xA5, 0, 0, 0, 0, 0, 0, 0xA4] = false := by decide

theorem test_meets_TimecodeReachesTracker_conversion :
    timecodeValid (word 0 0 0 0 0) = true ∧ timecodePosition (readTimecode (word 0 0 0 0 0)) (-600) = 0
      ∧ timecodePosition (readTimecode (word 0 23 59 59 23)) 600 = 103679999 := by decide

/-- An acquiring tracker with so many agreements. -/
def acquiring (agree : Nat) : Tracker :=
  { Tracker.reset with state := .acquire, agree := agree, lastTc := some 1000, lossTimer := some 0 }

theorem test_meets_ArrivalsByTrackerState_acquire :
    Tracker.reset.state = .idle ∧ { Tracker.reset with state := .held }.state = .held
      ∧ (acquiring 2).state = .acquire ∧ (acquiring 2).lastTc = some 1000
      ∧ ((acquiring 1).arrive 1050 50).tracker.agree = 2
      ∧ ((acquiring 2).arrive 1050 50).tracker.state = .locked
      ∧ ((acquiring 2).arrive 1000 50).tracker.state = .paused
      ∧ ((acquiring 2).arrive 1001 50).tracker.agree = 1 := by decide

theorem test_meets_ArrivalsByTrackerState_classified :
    let t (p : Nat) (r : Nat) : Tracker := { lockedAt p with lastTc := some 900, repeats := r }
    let u : Tracker := { lockedAt 1000 with state := .paused, lastTc := some 900 }
    ((t 1000 0).arrive 900 50).tracker.repeats = 1 ∧ ((t 1000 1).arrive 900 50).tracker.state = .paused
      ∧ (u.arrive 900 50).tracker.state = .paused ∧ (u.arrive 1006 50).tracker.state = .locked
      ∧ ((t 1000 0).arrive 1006 50).order = none ∧ ((t 1000 0).arrive 994 50).order = none
      ∧ ((t 1000 0).arrive 1007 50).order = some (.catchUp 1000 1007)
      ∧ ((t 1000 0).arrive 1240 50).order = some (.catchUp 1000 1240)
      ∧ ((t 1000 0).arrive 1241 50).order = some (.seek 1241 1)
      ∧ ((t 1000 0).arrive 993 50).order = some (.seek 993 1) := by decide

theorem test_meets_LocalTickAndExpiries_tick :
    (lockedAt 103679998).localTick.tracker.est = ⟨103679999, 0⟩
      ∧ (lockedAt 103679999).localTick.order = some .hold
      ∧ Tracker.reset.localTick.tracker.est = ⟨0, 0⟩
      ∧ (lockedAt 5).saturates = false ∧ (lockedAt 5).lossDue = false ∧ (lockedAt 5).holdDue = false := by decide

theorem test_meets_LocalTickAndExpiries_expiries :
    let due (st : TrackerState) (limit : Nat) : Tracker :=
      { Tracker.reset with state := st, lossTimer := some 149, freewheelLimit := limit }
    let hold : Tracker := { Tracker.reset with state := .freewheel, holdTimer := some 2399 }
    (due .acquire 1).lossDue = true ∧ (due .acquire 1).saturates = false
      ∧ (due .locked 0).lossDue = true ∧ (due .locked 0).saturates = false
      ∧ (due .locked 1).lossDue = true ∧ (due .paused 0).lossDue = true ∧ (due .paused 1).lossDue = true
      ∧ hold.holdDue = true ∧ hold.lossDue = false ∧ hold.saturates = false
      ∧ Tracker.reset.lossDue = false ∧ Tracker.reset.holdDue = false
      ∧ (lockedAt 103679999).saturates = true := by decide

/-- A show whose segment 0 retires at P = 108,500. -/
def retiring (p : Nat) : Auditorium :=
  { playing .free with
    tracker := lockedAt p
    window := { serving .free with cursor := some (1, 0) } }

theorem test_meets_RetirementMovesTheMark :
    MayRetire ((part (retiring 108500)).aud 0) ∧ ¬MayRetire ((part (retiring 108499)).aud 0) := by
  constructor
  · refine ⟨by decide, by decide, segment0, 1, 0, by decide, by decide, by decide, ?_, by decide⟩
    decide +kernel
  · rintro ⟨-, -, g, sg, i, hg, -, -, -, h⟩
    have hg' : g = segment0 := by
      have : some g = some segment0 := hg.symm.trans (by decide)
      simpa using this
    subst hg'
    exact absurd h (by decide)

theorem test_meets_DescriptorsJudgedInOrder :
    (judgeDescs 0 [] [⟨0x20, 1, 0, 5⟩, ⟨0x40, 4096, 5, 6⟩, ⟨0x60, 4097, 6, 7⟩, ⟨0x80, 1, 7, 8⟩]).1
      = [⟨0x20, 1, 0, 5, 0, 250⟩, ⟨0x40, 4096, 5, 6, 250, 300⟩] := by decide

/-- A state with one read in flight under tag 0, a programme read of auditorium 0. -/
def withRead (s : State) (r : Request) : State :=
  { s with fetch := { FetchEngine.reset with
      inFlight := [⟨0, r, 0⟩], nextTag := 1, programmeReads := (Vector.replicate 16 0).set 0 1 } }

/-- A read of auditorium 0 with the tags of `on`. -/
def readFor (purpose : Purpose) (requester : Requester) (ordinal : Option Nat) (length : Nat) : Request where
  party := Party.slot 0
  purpose := purpose
  requester := requester
  ordinal := ordinal
  attachTag := some 0
  seekTag := some 0
  epochTag := 0
  address := 0x8000#64
  length := length
  terms := .record

/-- A programme of 17 segments that loads, its first batch of one segment on its way. -/
def loading : State :=
  withRead (part { showing with
    programme := { Programme.reset with
      tableState := .loading, batch := .outstanding, segmentCount := 17, reference := 0x4000#64 } })
    (readFor .segmentDesc .programme none 32)

/-- A segment descriptor's bytes: cue array at 0x1000, a cue count, first start 0, last start 10. -/
def descBytes (count : Byte) : List Byte :=
  [0, 0x10, 0, 0, 0, 0, 0, 0, count, 0, 0, 0, 0, 0, 0, 0, 10] ++ List.replicate 15 0

theorem test_meets_DescriptorsJudgedInOrder_reads :
    ReadStands loading 0 ⟨0, readFor .segmentDesc .programme none 32, 0⟩ 0
      ∧ (descBytes 1).length = (readFor .segmentDesc .programme none 32).length
      ∧ answers (exec (.readCompletion 0 (.data (descBytes 100))) loading)
          (fun t => (t.aud 0).programme.table == [⟨0x1000#64, 100, 0, 10, 0, 500⟩]
            && decide ((t.aud 0).programme.batch = .outstanding)) = true
      ∧ answers (exec (.readCompletion 0 (.data (descBytes 0))) loading)
          (fun t => decide ((t.aud 0).programme.tableState = .ended) && (t.aud 0).window.readyEvent) = true :=
  ⟨⟨by decide, by decide, by decide, by decide, by decide⟩, by decide, by decide +kernel, by decide +kernel⟩

theorem test_meets_RecordJudgedAndBroughtIntoRange :
    let r (k : CueKind) : CueRecord := ⟨4319999, 1, some k, 1, 0, 3, 2, 8, 1⟩
    (∃ c n, (r .text).judge 4 none 0 = .taken c n ∧ c.kind = .text ∧ 1 ≤ (r .text).duration)
      ∧ (∃ c n, (r .clear).judge 4 none 0 = .taken c n ∧ c.kind = .clear)
      ∧ (∃ c n, (r .audio).judge 4 none 0 = .taken c n ∧ c.kind = .audio)
      ∧ (r .text).judge 4 (some 103679977) 0 = .disordered
      ∧ { r .text with start := 4320000 }.judge 4 none 0 = .bad :=
  ⟨⟨_, _, rfl, by decide, by decide⟩, ⟨_, _, rfl, by decide⟩, ⟨_, _, rfl, by decide⟩, by decide, by decide⟩

theorem test_meets_RefillTakesTheCursor :
    MayRefill ((part (playing .free)).aud 0) 0 0 3 segment0
      ∧ ∀ e sg i g, ¬MayRefill (State.reset.aud 0) e sg i g := by
  constructor
  · refine ⟨by decide, by decide, by decide, by decide, by decide, by decide +kernel, ?_, ?_⟩
    · intro r h
      have none : ((part (playing .free)).aud 0).programme.orderFloor = .none := by decide
      exact absurd (none.symm.trans h) nofun
    · decide
  · rintro e sg i g ⟨h, -⟩
    exact absurd h (by decide)

/-- Entries 5 and 6 FETCHING the ordinals given, the record of entry 5 on its way. -/
def awaitingRecord (o5 o6 : Nat) (record6 : Option CueRecord) : State :=
  withRead (part { playing .free with
    window := { serving (.fetching o5 0x1000#64 none) with
      entries := ((Vector.replicate 64 Entry.free).set 5 (.fetching o5 0x1000#64 none)).set 6
        (.fetching o6 0x1020#64 record6) } })
    (readFor .cueRecord (.windowEntry 5) (some 7) 32)

/-- The record of a CLEAR cue that starts at edit unit 50, which is tick 2500. -/
def clearRecord : CueRecord := ⟨50, 0, some .clear, 0, 0, 0, 1, 0, 0⟩

/-- Its bytes. -/
def clearBytes : List Byte := [50, 0, 0, 0, 0, 0, 2, 0, 0, 0, 1] ++ List.replicate 21 0

theorem test_meets_CueRecordReadsJudged :
    ReadStands (awaitingRecord 7 8 none) 0 ⟨0, readFor .cueRecord (.windowEntry 5) (some 7) 32, 0⟩ 0
      ∧ readCueRecord clearBytes = clearRecord ∧ clearBytes.length = 32
      ∧ ((awaitingRecord 7 8 none).aud 0).window.fetchOrder.head? = some (5, 7)
      ∧ ((awaitingRecord 7 6 none).aud 0).window.fetchOrder.head? = some (6, 6)
      ∧ ((awaitingRecord 9 8 none).aud 0).window.entry 5 = .fetching 9 0x1000#64 none
      ∧ (∃ c, clearRecord.judge 0 none 7 = .taken c 0)
      ∧ answers (exec (.readCompletion 0 (.data clearBytes)) (awaitingRecord 7 8 (some clearRecord)))
          (fun t => (t.aud 0).release.readies == [7, 8]) = true
      ∧ answers (exec (.readTimeout 0) (awaitingRecord 7 8 (some clearRecord)))
          (fun t => (t.aud 0).release.readies == [8]) = true :=
  ⟨⟨by decide, by decide, by decide, by decide, by decide⟩, by decide, by decide, by decide +kernel,
    by decide +kernel, by decide, ⟨_, rfl⟩, by decide +kernel, by decide +kernel⟩

/-- The lowest FETCHING entry has its record: it is judged, and the chain stops at the next, which waits for its own. -/
theorem test_meets_CueRecordReadsJudged_chain :
    let s := awaitingRecord 7 6 (some clearRecord)
    (s.aud 0).window.fetchOrder.head? = some (6, 6)
      ∧ (s.aud 0).window.entry 6 = .fetching 6 0x1020#64 (some clearRecord)
      ∧ ((s.judgeWaiting 0 2).aud 0).release.readies = [6]
      ∧ ((s.judgeWaiting 0 2).aud 0).window.fetchOrder = [(5, 7)] := by decide +kernel

/-- A TEXT record taken while entry 6 waits, of a later start, joins the wait list before it. -/
theorem test_meets_CueRecordReadsJudged_waits :
    let c := { cue .text with ordinal := 7, start := 1000 }
    let s := (part (playing .free)).updWindow 0 (fun w =>
      { w.setEntry 6 (.judged .loading { cue .text with ordinal := 8, start := 1001 }) with poolWait := [6] })
    ((s.fillEntry 0 5 c).aud 0).window.poolWait = [5, 6]
      ∧ ((s.fillEntry 0 5 { c with start := 1002 }).aud 0).window.poolWait = [6, 5] := by decide +kernel

/-- A second record for an entry whose record waits behind a lower ordinal takes the first one's place. -/
theorem test_meets_CueRecordReadsJudged_again :
    answers (exec (.readCompletion 0 (.data clearBytes)) ((awaitingRecord 7 6 none).updWindow 0 (fun w =>
        w.setEntry 5 (.fetching 7 0x1000#64 (some { clearRecord with start := 51 })))))
      (fun t => decide ((t.aud 0).window.entry 5 = .fetching 7 0x1000#64 (some clearRecord))) = true := by
  decide +kernel

/-- A show with a leave handed for entry 5. -/
def leavingOf (ordinal : Nat) : Auditorium :=
  { playing (.judged .active (cue .text)) with
    window := { serving (.judged .active (cue .text)) with leaves := [⟨5, ordinal⟩] } }

theorem test_meets_LeaveFreesItsEntry :
    (State.reset.aud 0).window.leaves = [] ∧ ((part (leavingOf 7)).aud 0).window.leaves = [⟨5, 7⟩]
      ∧ (((part (leavingOf 7)).aud 0).window.entry 5).ordinal? = some 7
      ∧ (((part (leavingOf 8)).aud 0).window.entry 5).ordinal? ≠ some 8
      ∧ answers (exec (.windowLeave 0) ((awaitingRecord 7 8 (some clearRecord)).updWindow 0 (fun w =>
          { w with leaves := [⟨5, 7⟩] }))) (fun t => (t.aud 0).release.readies == [8]) = true := by decide +kernel

/-- A window with a seek order, before or after the table ready event. -/
def ordered (st : WindowState) (taken : Bool) : Auditorium :=
  { showing with
    window := { Window.reset with state := st, readyTaken := taken, orders := [⟨5000, 1⟩] } }

theorem test_meets_SeekOrderEmptiesTheWindow :
    (State.reset.aud 0).window.orders = [] ∧ ((part (ordered .stopped false)).aud 0).window.orders = [⟨5000, 1⟩]
      ∧ ((part (ordered .stopped false)).aud 0).window.state = .stopped
      ∧ ((part (ordered .waiting false)).aud 0).window.state ≠ .stopped
      ∧ ((part (ordered .waiting false)).aud 0).window.readyTaken = false
      ∧ ((part (ordered .serving true)).aud 0).window.readyTaken = true
      ∧ answers (exec (.windowSeekOrder 0) (part (ordered .serving true)))
          (fun t => decide ((t.aud 0).window.state = .serving)) = true := by decide +kernel

/-- A search that awaits a table of one segment from 100,000 to 200,000 ticks, with the event handed. -/
def awaiting (target mark : Nat) : Auditorium :=
  { showing with
    programme := { Programme.reset with
      table := [⟨0x1000#64, 100, 2000, 4000, 100000, 200000⟩], segmentCount := 1, retireMark := mark }
    window := { Window.reset with
      state := .seeking, readyEvent := true, search := some ⟨target, 1, true, 0, 0, 0, 0, none⟩ } }

theorem test_meets_TableReadyFixesTheTarget :
    (State.reset.aud 0).window.readyEvent = false
      ∧ ((part (awaiting 5 0)).aud 0).window.search = some ⟨5, 1, true, 0, 0, 0, 0, none⟩
      ∧ (awaiting 5 1).programme.table[(awaiting 5 1).programme.retireMark]? = none
      ∧ max (236001 - 36000) 100000 = 200001 ∧ max (236000 - 36000) 100000 = 200000
      ∧ max (136001 - 36000) 100000 = 100001 ∧ max (136000 - 36000) 100000 = 100000
      ∧ answers (exec (.tableReady 0) (part (awaiting 236001 0)))
          (fun t => (t.aud 0).window.cursor == some (1, 0)) = true
      ∧ answers (exec (.tableReady 0) (part (awaiting 136000 0)))
          (fun t => (t.aud 0).window.cursor == some (0, 0)) = true
      ∧ answers (exec (.tableReady 0) (part (awaiting 136001 0)))
          (fun t => ((t.aud 0).window.search.bind Search.probe) == some 50) = true := by decide +kernel

/-- Retired ground by its two conditions: the segment after the mark starts at tick 100,000, or all are retired and the
last one's longest life ends at tick 236,000. -/
theorem test_meets_RetiredGround :
    RetiredGround { (awaiting 0 0).programme with
        table := [segment0, ⟨0x1000#64, 100, 2000, 4000, 100000, 200000⟩], retireMark := 1 } 99999
      ∧ ¬RetiredGround { (awaiting 0 0).programme with
        table := [segment0, ⟨0x1000#64, 100, 2000, 4000, 100000, 200000⟩], retireMark := 1 } 100000
      ∧ RetiredGround (awaiting 0 1).programme 235999 ∧ ¬RetiredGround (awaiting 0 1).programme 236000
      ∧ ¬RetiredGround (awaiting 0 0).programme 0 := by
  refine ⟨⟨by decide, .inl ⟨_, rfl, by decide⟩⟩, ?_, ⟨by decide, .inr ⟨by decide, _, rfl, by decide⟩⟩, ?_, ?_⟩
  · rintro ⟨-, ⟨g, hg, h⟩ | ⟨h, -⟩⟩
    · injection hg with hg; subst hg; exact absurd h (by decide)
    · exact absurd h (by decide)
  · rintro ⟨-, ⟨g, hg, h⟩ | ⟨-, g, hg, h⟩⟩
    · exact absurd hg nofun
    · injection hg with hg; subst hg; exact absurd h (by decide)
  · rintro ⟨h, -⟩
    exact absurd h (by decide)

/-- A search with lo, hi and a probe of record 50 outstanding, whose read has the ordinal given. -/
def probing (lo hi : Nat) (ordinal : Nat) : State :=
  withRead (part { awaiting 0 0 with
    window := { Window.reset with
      state := .seeking, readyTaken := true, search := some ⟨136001, 0, false, 100001, 0, lo, hi, some 50⟩ } })
    (readFor .probe .windowSearch (some ordinal) 32)

/-- A record that starts at an edit unit of 1900 and more, in bytes, which is tick 95,000 and more at 50 a unit. -/
def probeBytes (low : Byte) : List Byte := [low, 0x08] ++ List.replicate 30 0

theorem test_meets_ProbesNarrowTheSearch :
    ReadStands (probing 0 100 50) 0 ⟨0, readFor .probe .windowSearch (some 50) 32, 0⟩ 0
      ∧ ((probing 0 100 50).aud 0).programme.table[0]? = some ⟨0x1000#64, 100, 2000, 4000, 100000, 200000⟩
      ∧ answers (exec (.readCompletion 0 (.data (probeBytes 0))) (probing 0 100 50))
          (fun t => ((t.aud 0).window.search.bind Search.probe) == some 25) = true
      ∧ answers (exec (.readCompletion 0 (.data (List.replicate 32 0))) (probing 0 100 50))
          (fun t => ((t.aud 0).window.search.bind Search.probe) == some 75) = true
      ∧ answers (exec (.readTimeout 0) (probing 50 51 50)) (fun t => (t.aud 0).window.cursor == some (0, 50)) = true
      ∧ answers (exec (.readTimeout 0) (probing 0 100 51))
          (fun t => ((t.aud 0).window.search.bind Search.probe) == some 50) = true :=
  ⟨⟨by decide, by decide, by decide, by decide, by decide⟩, by decide, by decide +kernel, by decide +kernel,
    by decide +kernel, by decide +kernel⟩

/-- The part with so many requests in the queue, so many of them of slot 0. -/
def queuedState (n k : Nat) : State :=
  { on with fetch := { FetchEngine.reset with
      queue := List.replicate n ⟨textRequest, 2⟩
      queuedCount := (Vector.replicate 17 0).set 0 k } }

theorem test_meets_QueueAdmission :
    (queuedState 31 3).offerResult 0 = .entered ∧ (queuedState 32 3).offerResult 0 = .queueFull
      ∧ (queuedState 31 4).offerResult 0 = .partyFull ∧ State.reset.offerResult 0 = .queueFull := by decide

/-- Four reads in flight, or none. -/
def flights (n : Nat) : State :=
  { queuedState 1 1 with fetch := { (queuedState 1 1).fetch with inFlight := List.replicate n ⟨0, textRequest, 0⟩ } }

theorem test_meets_IssueTakesLowestClassFirst :
    4 ≤ (flights 4).fetch.inFlight.length ∧ on.fetch.queue = [] ∧ (flights 3).fetch.inFlight.length < 4
      ∧ (flights 3).fetch.queue ≠ [] ∧ mirrorQueued.fetch.queue ≠ []
      ∧ answers (exec .requestIssue (flights 3)) (fun t => t.fetch.inFlight.length == 4) = true
      ∧ answers (exec .requestIssue mirrorQueued) (fun t => t.fetch.lastWrite.isSome) = true := by decide +kernel

/-- A text read in flight for entry 5 of auditorium 0. -/
def reading : State :=
  { part (playing (.judged .loading { cue .text with blocks := [0, 1, 2] })) with
    fetch := { FetchEngine.reset with
      inFlight := [⟨0, textRequest, 0⟩], nextTag := 1
      programmeReads := (Vector.replicate 16 0).set 0 1 } }

theorem test_meets_ReadEndsOnce :
    reading.fetch.flight 1 = none ∧ reading.fetch.flight 0 = some ⟨0, textRequest, 0⟩
      ∧ (List.replicate 80 (0 : Byte)).length = textRequest.length
      ∧ (reading.moveAttachGen 0).fetch.attachGen[(0 : Fin 16)] ≠ 0
      ∧ textRequest.attachTag = some 0 ∧ textRequest.party.aud? = some 0 := by decide

/-- The last programme read of an auditorium in CLOSING drains it; outside CLOSING, or with another in flight, none does. -/
theorem test_meets_ReadEndsOnce_drained :
    let closing := fun (n : Nat) => ({ reading with fetch := { reading.fetch with
      programmeReads := reading.fetch.programmeReads.set 0 n } }.setLifecycle 0 .closing none).moveAttachGen 0
    let ended := fun (s : State) (n : Nat) (drained : Bool) => answers (exec (.readTimeout 0) s) (fun t =>
      t.fetch.programmeReads[(0 : Fin 16)] == n && t.fetch.drained[(0 : Fin 16)] == drained)
    ended (closing 1) 0 true = true ∧ ended (closing 2) 1 false = true
      ∧ ended (reading.moveAttachGen 0) 0 false = true ∧ (closing 1).drains ⟨0, textRequest, 0⟩ 0 = true := by
  decide +kernel

theorem test_meets_MaterialReadsCompleteEntries :
    ReadStands reading 0 ⟨0, textRequest, 0⟩ 0
      ∧ textRequest.purpose = .text ∧ textRequest.requester = .windowEntry 5
      ∧ (reading.aud 0).window.entry 5 = .judged .loading { cue .text with blocks := [0, 1, 2] }
      ∧ textRequest.ordinal = some (cue .text).ordinal ∧ [0, 1, (2 : BlockIx)].Nodup
      ∧ ((part (playing .free)).aud 0).window.entry 5 = .free :=
  ⟨⟨by decide, by decide, by decide, by decide, by decide⟩, by decide, by decide, by decide, by decide, by decide,
    by decide⟩

/-- An entry that waits for blocks as a completion of its ordinal comes: READY, off the wait list, no block written. -/
theorem test_meets_MaterialReadsCompleteEntries_waiting :
    let s := (withRead (part (playing (.judged .loading (cue .text)))) textRequest).updWindow 0 (fun w =>
      { w with poolWait := [5] })
    (s.aud 0).window.entry 5 = .judged .loading (cue .text)
      ∧ answers (exec (.readCompletion 0 (.data (List.replicate 80 1))) s) (fun t =>
        decide ((t.aud 0).window.entry 5 = .judged .ready (cue .text)) && (t.aud 0).window.poolWait.isEmpty
          && (t.aud 0).release.readies == [7]) = true := by decide +kernel

/-- A TEXT completion of the ordinal of an AUDIO entry makes it READY without a table head. -/
theorem test_meets_MaterialReadsCompleteEntries_kinds :
    answers (exec (.readCompletion 0 (.data (List.replicate 80 1)))
        (withRead (part (playing (.judged .loading (cue .audio)))) textRequest)) (fun t =>
      decide ((t.aud 0).window.entry 5 = .judged .ready (cue .audio)) && (t.aud 0).streamer.readies == [7]) = true := by
  decide +kernel

/-- An AUDIO entry whose table head of 4 descriptors is on its way. -/
def readingHead : State :=
  withRead (part (playing (.judged .loading (cue .audio)))) (readFor .audioList (.windowEntry 5) (some 7) 64)

theorem test_meets_MaterialReadsCompleteEntries_heads :
    ReadStands readingHead 0 ⟨0, readFor .audioList (.windowEntry 5) (some 7) 64, 0⟩ 0
      ∧ (readingHead.aud 0).window.entry 5 = .judged .loading (cue .audio)
      ∧ answers (exec (.readCompletion 0 (.data (List.replicate 64 1))) readingHead)
          (fun t => (t.aud 0).streamer.readies == [7]) = true :=
  ⟨⟨by decide, by decide, by decide, by decide, by decide⟩, by decide, by decide +kernel⟩

/-- A directory read of slot 0 in flight. -/
def scanning (kind : DirectoryRead) (taken : Option Word) : State :=
  { on.updParty 0 (fun x => { x with directoryRead := kind, takenGen := taken }) with
    fetch := { FetchEngine.reset with inFlight := [⟨0, on.halfRead 0, 0⟩], nextTag := 1 } }

theorem test_meets_DirectoryReadsTakeRequests :
    (scanning .scan none).fetch.flight 0 = some ⟨0, on.halfRead 0, 0⟩ ∧ (on.halfRead 0).party = 0
      ∧ (on.halfRead 0).requester = .exchange ∧ (on.halfRead 0).epochTag = (scanning .scan none).fetch.runEpoch
      ∧ (on.halfRead 0).attachTag = none ∧ (on.halfRead 0).seekTag = none
      ∧ ((scanning .scan none).party 0).callPending = false ∧ ((scanning .scan none).party 0).directoryRead = .scan
      ∧ ((scanning .take none).party 0).directoryRead = .take
      ∧ ((scanning .scan none).party 0).takenGen ≠ some (BitVec.ofNat 32 (leNat [5] 0 4))
      ∧ ((scanning .scan (some 5)).party 0).takenGen = some (BitVec.ofNat 32 (leNat [5] 0 4)) := by decide

/-- A take read of the site with a call pending: thresholds of 61 and 5 are held as 60 and 61, and the call scans. -/
theorem test_meets_DirectoryReadsTakeRequests_site :
    let s := { (on.updParty Party.site (fun x => { x with directoryRead := .take, callPending := true })) with
      fetch := { FetchEngine.reset with inFlight := [⟨0, on.halfRead Party.site, 0⟩], nextTag := 1 } }
    let half := [1, 0, 0, 0, 61, 0, 5] ++ List.replicate 249 (0 : Byte)
    s.fetch.flight 0 = some ⟨0, on.halfRead Party.site, 0⟩ ∧ half.length = (on.halfRead Party.site).length
      ∧ (s.party Party.site).callPending = true
      ∧ answers (exec (.readCompletion 0 (.data half)) s) (fun t => t.devices.quietThreshold == 60
          && t.devices.releaseThreshold == 61 && decide ((t.party Party.site).directoryRead = .scan)
          && (t.party Party.site).takenGen == some 1) = true := by decide +kernel

/-- The four blocks with a departure to take and, in the window and the Programme Unit, a request to offer. -/
def departed : Auditorium :=
  { playing .free with
    window := { serving .free with offers := [textRequest], departures := [0] }
    programme := { Programme.reset with batch := .waiting textRequest, departures := [0] }
    streamer := { Streamer.reset with departures := [0] } }

theorem test_meets_OffersAfterDeparture :
    (on.aud 0).window.departures = [] ∧ (on.aud 0).programme.departures = []
      ∧ (on.aud 0).streamer.departures = [] ∧ on.exchange.departures = []
      ∧ ((part departed).aud 0).window.departures = [0] ∧ ((part departed).aud 0).programme.departures = [0]
      ∧ ((part departed).aud 0).programme.batch = .waiting textRequest
      ∧ ((part departed).aud 0).streamer.departures = [0]
      ∧ (part departed).offerResult textRequest.party = .entered := by decide

/-- An Exchange Unit with a departure to take and a mirror write of the site and a read of slot 0 to offer. -/
theorem test_meets_OffersAfterDeparture_exchange :
    let s := { on with exchange := { on.exchange with
      offers := [on.halfWrite Party.site, on.halfRead 0], departures := [3] } }
    s.exchange.departures = [3] ∧ answers (exec (.offerAfterDeparture .exchange) s) (fun t =>
      t.fetch.queue.length == 2 && decide ((t.party Party.site).mirrorWrite = .queued)) = true := by decide +kernel

theorem test_meets_RetryRoundGrantsInTurn :
    let s := { part { playing (.judged .loading (cue .text)) with
        window := { serving (.judged .loading (cue .text)) with poolWait := [5] } } with
      pool := { Pool.reset with roundsOwed := 1 } }
    0 < s.pool.roundsOwed ∧ s.pool.retryPointer + 1 + 0 = 0 ∧ (s.aud 0).window.poolWait.Nodup
      ∧ Servable s 0 5 (cue .text) [0, 1, 2] ∧ (s.aud 1).window.poolWait = []
      ∧ answers (exec .poolRetryRound s) (fun t => t.pool.retryPointer == 0
          && (t.aud 0).window.poolWait.isEmpty && t.fetch.queue.length == 1) = true :=
  ⟨by decide, by decide, by decide, ⟨⟨[], by decide⟩, by decide, by decide +kernel⟩, by decide, by decide +kernel⟩

/-- Two entries wait, the second for more blocks than the pool has: the first is served and the turn ends there. -/
theorem test_meets_RetryRoundGrantsInTurn_turn :
    let wide := { cue .text with ordinal := 8, lines := 4 }
    let s := (part (playing (.judged .loading (cue .text)))).updWindow 0 (fun w =>
      { w.setEntry 6 (.judged .loading wide) with poolWait := [5, 6] })
    let s := { s with pool := { s.pool with
      blocks := vofFn (fun b => if b.val < 256 then s.pool.blocks[b] else ⟨some (1, 0), Vector.replicate 16 ⟨0, 0⟩⟩)
      reserveHeld := s.pool.reserveHeld.set 0 10 } }
    s.pool.choose 0 3 = some [0, 1, 2] ∧ (s.retryTurn 0 [5, 6]).2 = true
      ∧ ((s.retryTurn 0 [5, 6]).1.aud 0).window.poolWait = [6]
      ∧ (s.retryTurn 0 [6]).2 = false
      ∧ (s.retryAuditorium 0).pool.retryPointer = 0 := by decide +kernel

theorem test_meets_RetryRoundGrantsInTurn_none (a : Aud) (e : EntryIx) (c : EntryCue) (bs : List BlockIx) :
    ¬Servable on a e c bs := by
  rintro ⟨⟨rest, h⟩, -⟩
  have none : ∀ b : Aud, (on.aud b).window.poolWait = [] := by decide
  rw [none a] at h
  exact absurd h nofun

/-- A show with one order for the Release Unit and the streamer, and one hand-over for each. -/
def told (o : TrackerOrder) : Auditorium :=
  { playing (.judged .ready (cue .text)) with
    release := { Release.reset with orders := [o], handOvers := [⟨1, [7]⟩], readies := [7] }
    streamer := { Streamer.reset with orders := [o], handOvers := [⟨1, [7]⟩], readies := [7] } }

theorem test_meets_ReleaseOrdersTaken :
    ((part (told (.seek 9 1))).aud 0).release.orders = [.seek 9 1]
      ∧ ((part (told .hold)).aud 0).release.orders = [.hold]
      ∧ ((part (told .hold)).aud 0).release.handOvers = [⟨1, [7]⟩]
      ∧ (on.aud 0).release.orders = [] ∧ (on.aud 0).release.handOvers = [] := by decide

theorem test_meets_PositionChecksAdvanceQ :
    (on.aud 0).state ≠ .show ∧ (on.aud 0).release.readies = [] ∧ (on.aud 0).release.orders = []
      ∧ ((part (told .hold)).aud 0).state = .show ∧ ((part (told .hold)).aud 0).release.readies = [7]
      ∧ ((part (told (.catchUp 5 9))).aud 0).release.orders = [.catchUp 5 9] := by decide

theorem test_meets_PositionChecksAdvanceQ_open :
    ReleaseGateOpen ((part (playing (.judged .ready (cue .text)))).aud 0) true
      ∧ (cue .text).finish ≤ (part (playing (.judged .ready (cue .text)))).position 0
      ∧ answers (exec (.releaseTickCheck 0) (part (playing (.judged .ready (cue .text)))))
          (fun t => (t.aud 0).release.leaving == [7]) = true := by
  refine ⟨⟨by decide, .inl (by decide), by decide, by decide, fun _ => by decide⟩, by decide, ?_⟩
  decide +kernel

/-- A show at P = 2000 with a READY cue in entry 5, another entry 6, and channel 1 TEXT. -/
def releasing (c : EntryCue) (other : Entry) : State :=
  (part { playing (.judged .ready c) with
    release := { Release.reset with
      channels := Release.reset.channels.set 1 { ChannelDescriptor.reset with kind := .text } } }).updWindow 0
    (fun w => w.setEntry 6 other)

/-- Late is more than 6 ticks past the start; a cue of an unrouted track leaves; its end at the bound is missed. -/
theorem test_meets_CuesReleasedEndedAndMissed :
    let s := releasing (cue .text) .free
    let t := s.releaseEntry 0 5 (cue .text) 1007 false
    MayRelease s 0 5 (cue .text) ∧ s.rowsToTake 0 (cue .text) = [(1, 0)]
      ∧ Routes (s.aud 0).release.channels[(1 : Fin 4)] (cue .text)
      ∧ (t.incident 0).code = .textLate ∧ (t.aud 0).counters[(3 : Fin 16)] = 1
      ∧ (t.aud 0).window.entry 5 = .judged .active (cue .text)
      ∧ ((s.releaseEntry 0 5 (cue .text) 1006 false).incident 0).valid = false
      ∧ ((s.releaseEntry 0 5 { cue .text with trackMask := 2 } 1006 false).aud 0).window.leaves = [⟨5, 7⟩]
      ∧ ((State.pendingStep 1099 0 s 5).aud 0).window.leaves = []
      ∧ ((State.sweepStep 1100 0 s 5).aud 0).counters[(5 : Fin 16)] = 1
      ∧ ((State.walkStep 1006 false 0 s ⟨1000, 1, 1000, 7, 5⟩).aud 0).window.entry 5
        = .judged .active (cue .text) := by
  refine ⟨⟨by decide, by decide, by decide⟩, ?_⟩
  decide +kernel

/-- A flagged cue waits for the flagged one before it; a catch-up one that starts after Q waits for the walk. -/
theorem test_meets_CuesReleasedEndedAndMissed_flagged :
    let c := { cue .text with resumed := true }
    let s := releasing c (.judged .loading { c with ordinal := 6 })
    let u := releasing { cue .text with catchUp := true } .free
    s.heldBack 0 c = true ∧ ((State.pendingStep 1050 0 s 5).aud 0).window.entry 5 = .judged .ready c
      ∧ ((State.pendingStep 1100 0 s 5).incident 0).code = .cueMissed
      ∧ ((State.pendingStep 1099 0 (releasing c .free) 5).aud 0).window.entry 5 = .judged .active c
      ∧ u.heldBack 0 { cue .text with catchUp := true } = false
      ∧ ((State.pendingStep 1050 0 u 5).aud 0).window.entry 5 = .judged .ready { cue .text with catchUp := true } := by
  decide +kernel

theorem test_meets_StreamOrdersTaken :
    ((part (told (.seek 9 1))).aud 0).streamer.orders = [.seek 9 1]
      ∧ ((part (told .hold)).aud 0).streamer.orders = [.hold]
      ∧ ((part (told .hold)).aud 0).streamer.handOvers = [⟨1, [7]⟩]
      ∧ (on.aud 0).streamer.orders = [] ∧ (on.aud 0).streamer.handOvers = [] := by decide

theorem test_meets_StreamChecksCompleted :
    (on.aud 0).state ≠ .show ∧ (on.aud 0).streamer.readies = []
      ∧ ((part (told .hold)).aud 0).state = .show ∧ ((part (told .hold)).aud 0).streamer.readies = [7]
      ∧ ((part (told (.catchUp 5 9))).aud 0).streamer.orders = [.catchUp 5 9]
      ∧ { told .hold with tracker := Tracker.reset }.tracker.state ≠ .locked
      ∧ ((part (told .hold)).aud 0).tracker.state = .locked
      ∧ (∀ c : Chan, (told .hold).release.channels[c].kind ≠ .audio) := by decide

/-- A show with a READY AUDIO cue due, and a channel that carries its track. -/
def describing : Auditorium :=
  { playing (.judged .ready { cue .audio with start := 2480 }) with
    release := { Release.reset with
      channels := Release.reset.channels.set 2 { ChannelDescriptor.reset with kind := .audio } }
    streamer := { Streamer.reset with readies := [7] } }

theorem test_meets_DueDescriptionsOpened :
    StreamGateOpen ((part describing).aud 0) true
      ∧ DueAudio (part describing) 0 5 { cue .audio with start := 2480 }
      ∧ ((part describing).aud 0).streamer.readies ≠ []
      ∧ answers (exec (.streamTickCheck 0) (part describing))
          (fun t => decide ((t.aud 0).window.entry 5 = .judged .active { cue .audio with start := 2480 })) = true := by
  refine ⟨⟨by decide, .inl (by decide), by decide, by decide, fun _ => by decide⟩,
    ⟨by decide, by decide, by decide⟩, by decide, ?_⟩
  decide +kernel

/-- A catch-up order opens the due cue too; one whose leave is on its way is passed by. -/
theorem test_meets_DueDescriptionsOpened_order :
    let s := (part describing).updStreamer 0 (fun u => { u with orders := [.catchUp 1990 2000] })
    let left := s.updWindow 0 (fun w => { w with leaves := [⟨5, 7⟩] })
    StreamGateOpen (s.aud 0) false ∧ (s.aud 0).streamer.orders = [.catchUp 1990 2000]
      ∧ answers (exec (.streamCatchUpOrder 0) s) (fun t =>
        decide ((t.aud 0).window.entry 5 = .judged .active { cue .audio with start := 2480 })) = true
      ∧ ((State.openStep 0 none left 5).aud 0).window.entry 5
        = .judged .ready { cue .audio with start := 2480 } := by
  refine ⟨⟨by decide, .inl (by decide), by decide, by decide, nofun⟩, by decide, ?_⟩
  decide +kernel

/-- A carriage with an audience, due at P + 480, with a good or a bad descriptor in its cache. -/
def fetching (cache : List PacketDesc) : State :=
  let x := { Stream.reset with cues := [⟨7, 5, 2480, 0, 4, false, false⟩], fetch := some 7, cache := cache }
  { part { describing with streamer := { Streamer.reset with streams := Streamer.reset.streams.set 2 x } } with
    devices := { DeviceTable.reset with
      audience := DeviceTable.reset.audience.set 0 ((Vector.replicate 4 0).set 2 1) } }

theorem test_meets_FetchingAheadOfThePosition :
    FetchDue (fetching []) 0 2 ⟨7, 5, 2480, 0, 4, false, false⟩
      ∧ FetchDue (fetching [⟨8, 240⟩]) 0 2 ⟨7, 5, 2480, 0, 4, false, false⟩
      ∧ ((fetching [⟨8, 240⟩]).stream 0 2).cache[0]? = some ⟨8, 240⟩
      ∧ ((fetching [⟨8, 15⟩]).stream 0 2).cache[0]? = some ⟨8, 15⟩
      ∧ ((fetching []).stream 0 2).batchOut = false
      ∧ (∀ y, ¬FetchDue on 0 2 y) := by
  refine ⟨⟨⟨by decide, .inl (by decide), by decide, by decide, fun _ => by decide⟩, by decide, by decide,
      by decide, by decide⟩,
    ⟨⟨by decide, .inl (by decide), by decide, by decide, fun _ => by decide⟩, by decide, by decide,
      by decide, by decide⟩, by decide, by decide, by decide, ?_⟩
  rintro y ⟨⟨h, -⟩, -⟩
  exact absurd h (by decide)

/-- A packet requested, and a bad descriptor skipped, move the next fetch index from 0 to 1. -/
theorem test_meets_FetchingAheadOfThePosition_next :
    let moved := fun (d : PacketDesc) => answers (exec (.packetRequest 0 2) (fetching [d]))
      (fun t => (t.stream 0 2).nextIndex == 1 && (t.stream 0 2).fetch == some 7)
    (((fetching [⟨8, 240⟩]).stream 0 2).cues.map Carriage.ordinal).Nodup
      ∧ (∀ z ∈ ((fetching [⟨8, 240⟩]).stream 0 2).cues, ((fetching [⟨8, 240⟩]).stream 0 2).isComplete z = false)
      ∧ moved ⟨8, 240⟩ = true ∧ moved ⟨8, 15⟩ = true := by decide +kernel

/-- With the last index fetched the fetch passes to the carriage behind, and a carriage emptied by its last skip goes. -/
theorem test_meets_FetchingAheadOfThePosition_last :
    let last : Carriage := ⟨7, 5, 2480, 0, 1, false, false⟩
    let s := fun (d : PacketDesc) (cues : List Carriage) =>
      (fetching [d]).setStream 0 2 { (fetching [d]).stream 0 2 with cues := cues }
    let two := s ⟨8, 240⟩ [last, ⟨8, 6, 2500, 2, 4, false, false⟩]
    (two.stream 0 2).behindFetch = [⟨8, 6, 2500, 2, 4, false, false⟩]
      ∧ (∀ z ∈ (two.stream 0 2).cues, (two.stream 0 2).isComplete z = false)
      ∧ answers (exec (.packetRequest 0 2) two) (fun t =>
        (t.stream 0 2).fetch == some 8 && (t.stream 0 2).nextIndex == 2) = true
      ∧ (∀ z ∈ ((s ⟨8, 15⟩ [last]).stream 0 2).cues, ((s ⟨8, 15⟩ [last]).stream 0 2).isComplete z = false)
      ∧ answers (exec (.packetRequest 0 2) (s ⟨8, 15⟩ [last])) (fun t =>
        (t.stream 0 2).fetch.isNone && (t.stream 0 2).cues.isEmpty) = true := by decide +kernel

/-- Two carriages of cues 7 and 8 from ticks 2000 and 2120 on, the second fetched, two packets of the first left. -/
def carrying : State :=
  let x : Stream := { Stream.reset with
    cues := [⟨7, 5, 2000, 0, 6, false, false⟩, ⟨8, 6, 2120, 0, 4, false, false⟩], fetch := some 8, nextIndex := 1
    queue := [⟨7, 4, 2096, none⟩, ⟨7, 5, 2120, some [1]⟩, ⟨8, 0, 2120, some [2]⟩] }
  { part { describing with streamer := { Streamer.reset with
      streams := Streamer.reset.streams.set 2 x, bufferCount := 3 } } with
    devices := (fetching []).devices }

theorem test_meets_DescriptionsOpenedAndPreempted :
    let x := carrying.stream 0 2
    (x.cues.map Carriage.ordinal).Nodup ∧ x.cues.length ≤ 4 ∧ 9 ∉ x.cues.map Carriage.ordinal
      ∧ x.fetch = some 8 ∧ 8 ∈ x.cues.map Carriage.ordinal
      ∧ (carrying.stream 0 1).cues = [] ∧ (carrying.stream 0 1).fetch = none
      ∧ (∃ y, x.cues.getLast? = some y ∧ y.start = 2120)
      ∧ (on.aud 0).release.audioRoutes (cue .audio) = []
      ∧ ((carrying.openOnChannel 0 9 { cue .audio with ordinal := 9, start := 2120 } false false 2).stream 0 2).cues
        = [⟨7, 5, 2000, 0, 5, false, false⟩, ⟨9, 9, 2120, 0, 4, false, false⟩] := by
  refine ⟨by decide, by decide, by decide, by decide, by decide, by decide, by decide, ⟨_, rfl, rfl⟩, by decide, ?_⟩
  decide +kernel

theorem test_meets_DescriptionsOpenedAndPreempted_late :
    ((carrying.openOnChannel 0 9 { cue .audio with ordinal := 9, start := 1900 } false false 1).aud 0).counters[
        (9 : Fin 16)] = 4
      ∧ ((carrying.openOnChannel 0 9 { cue .audio with ordinal := 9, start := 2119 } false false 2).aud 0).counters[
        (11 : Fin 16)] = 4 := by decide +kernel

/-- Cue 9 opened on channel 2: carried it is ACTIVE, in the order's range it slips once, run out it leaves once. -/
theorem test_meets_DescriptionsOpenedAndPreempted_cue :
    let c := { cue .audio with ordinal := 9, start := 2120 }
    let opened := fun (c : EntryCue) (range : Option (Nat × Nat)) => (carrying.openCue 0 9 c range).aud 0
    (carrying.aud 0).release.audioRoutes c = [2]
      ∧ (opened c none).window.entry 9 = .judged .active c ∧ (opened c none).counters[(1 : Fin 16)] = 0
      ∧ (opened c (some (2119, 2120))).counters[(1 : Fin 16)] = 1
      ∧ (opened c (some (2120, 2130))).counters[(1 : Fin 16)] = 0
      ∧ (opened { c with start := 1800 } none).window.leaves = [⟨9, 9⟩] := by decide +kernel

/-- `carrying` with the gate closed, the second carriage's stop given, no audience, and a catch-up order. -/
def sweeping (stop : Nat) : State :=
  let s := { carrying with devices := DeviceTable.reset }.setStream 0 2 { carrying.stream 0 2 with
    cues := [⟨7, 5, 2000, 0, 6, false, false⟩, ⟨8, 6, 2120, 0, stop, false, false⟩] }
  (s.updWindow 0 (fun w => { w with state := .waiting })).updStreamer 0 (fun u => { u with
    orders := [.catchUp 2100 2144] })

/-- The sweep at P = 2000 passes the indices of cue 8 up to tick 2264: of twenty the next fetch index stands at 7, and four
end the carriage, so that both cues are completed and left. The catch-up order passes index 1 and ends cue 7 alone. -/
theorem test_meets_StreamChecksCompleted_moves :
    (∀ c : Chan, ((sweeping 20).aud 0).release.channels[c].kind = .audio → CuesApart ((sweeping 20).stream 0 c))
      ∧ ((sweeping 20).stream 0 2).passedTo 2265 = 7
      ∧ answers (exec (.streamTickCheck 0) (sweeping 20)) (fun t =>
        (t.stream 0 2).nextIndex == 7 && (t.stream 0 2).fetch == some 8 && (t.aud 0).window.leaves == [⟨5, 7⟩]
          && (t.aud 0).counters[(10 : Fin 16)] == 9 && (t.aud 0).counters[(12 : Fin 16)] == 1) = true
      ∧ answers (exec (.streamTickCheck 0) (sweeping 4)) (fun t =>
        (t.stream 0 2).fetch.isNone && (t.stream 0 2).cues.isEmpty
          && (t.aud 0).window.leaves == [⟨5, 7⟩, ⟨6, 8⟩]) = true
      ∧ answers (exec (.streamCatchUpOrder 0) (sweeping 20)) (fun t =>
        (t.stream 0 2).nextIndex == 2 && (t.stream 0 2).fetch == some 8
          && (t.stream 0 2).queue == [⟨7, 4, 2096, none⟩] && (t.aud 0).counters[(9 : Fin 16)] == 3) = true :=
  ⟨fun c _ => ⟨by revert c; decide +kernel, by revert c; decide +kernel⟩, by decide +kernel, by decide +kernel,
    by decide +kernel, by decide +kernel⟩

/-- The fetch passes from a carriage fetched to its end to the first behind it that has an index to fetch. -/
theorem test_meets_DescriptionsOpenedAndPreempted_settled :
    let x := { carrying.stream 0 2 with
      cues := (carrying.stream 0 2).cues ++ [⟨9, 9, 2200, 3, 3, false, false⟩, ⟨10, 10, 2300, 1, 5, false, false⟩]
      nextIndex := 4 }
    x.cues.length = 4 ∧ (x.cues.map Carriage.ordinal).Nodup
      ∧ (((carrying.setStream 0 2 x).settleStream 0 2 settleRounds).stream 0 2).fetch = some 10
      ∧ x.settled (carrying.aud 0).window
        = ((carrying.setStream 0 2 x).settleStream 0 2 settleRounds).stream 0 2 := by decide +kernel

/-- A fault of the last packet of a carriage completes it: it is counted and left. -/
theorem test_meets_StreamReadsArrive_completes :
    let s := carrying.setStream 0 2 { carrying.stream 0 2 with
      queue := [⟨7, 4, 2096, none⟩, ⟨8, 0, 2120, some [2]⟩] }
    let packet := readFor .audioPacket (.streamPacket 2 4) (some 7) 16
    CuesApart (s.stream 0 2)
      ∧ answers (exec (.readTimeout 0) (withRead s packet)) (fun t =>
        (t.stream 0 2).cues.length == 1 && (t.aud 0).counters[(12 : Fin 16)] == 1
          && (t.aud 0).window.leaves == [⟨5, 7⟩]) = true :=
  ⟨⟨by decide, by decide⟩, by decide +kernel⟩

/-- The carriages of `carrying` with a read of the fetch carriage or of an AWAITED packet on its way. -/
theorem test_meets_StreamReadsArrive :
    let batch := readFor .audioList (.streamBatch 2 1) (some 8) 48
    let packet := readFor .audioPacket (.streamPacket 2 4) (some 7) 16
    ReadStands (withRead carrying batch) 0 ⟨0, batch, 0⟩ 0 ∧ ReadStands (withRead carrying packet) 0 ⟨0, packet, 0⟩ 0
      ∧ (∃ y, (carrying.stream 0 2).fetchCarriage = some y ∧ y.ordinal = 8)
      ∧ (carrying.stream 0 2).behindFetch = [] ∧ (∀ z ∈ (carrying.stream 0 2).cues, (carrying.stream 0 2).isComplete z = false)
      ∧ answers (exec (.readTimeout 0) (withRead carrying batch)) (fun t =>
          (t.stream 0 2).cues.length == 1 && (t.aud 0).window.leaves == [⟨6, 8⟩]) = true
      ∧ answers (exec (.readCompletion 0 (.data (List.replicate 16 3))) (withRead carrying packet)) (fun t =>
          ((t.stream 0 2).queue.all (fun p => p.body.isSome))) = true :=
  ⟨⟨by decide, by decide, by decide, by decide, by decide⟩, ⟨by decide, by decide, by decide, by decide, by decide⟩,
    ⟨_, rfl, rfl⟩, by decide, by decide, by decide +kernel, by decide +kernel⟩

/-- An auditorium in STANDBY with its lane in a state, the next frame number given. -/
def laneIn (st : LaneState) (next : BitVec 16) : Auditorium :=
  { Auditorium.reset with state := .standby, lane := { Lane.start with state := st, frameNumber := next - 1 } }

theorem test_meets_LaneFrameSendsAndComposes :
    (on.aud 0).lane.state = .off ∧ ((part (laneIn .sparse 11)).aud 0).lane.state ≠ .off
      ∧ ((part (laneIn .sparse 11)).aud 0).lane.frameNumber + 1 = 11
      ∧ answers (exec (.laneFrame 0) (part (laneIn .sparse 11))) (fun t => (t.aud 0).lane.held.isNone) = true
      ∧ answers (exec (.laneFrame 0) (part (laneIn .sparse 10))) (fun t => (t.aud 0).lane.held.isSome) = true
      ∧ answers (exec (.laneFrame 0) (part (laneIn .full 11))) (fun t => (t.aud 0).lane.held.isSome) = true := by
  decide +kernel

/-- A SPARSE lane with replies for channel 2 and for no channel: the frame of a tenth number carries them in order. -/
theorem test_meets_LaneFrameSendsAndComposes_replies :
    answers (exec (.laneFrame 0) (part { laneIn .sparse 20 with
        lane := { (laneIn .sparse 20).lane with
          replies := [⟨9, .accepted, 2⟩, ⟨8, .channelClosed, 4⟩], dirty := [(1, 2)] } })) (fun t =>
      (t.aud 0).lane.replies.isEmpty && (t.aud 0).lane.dirty.isEmpty
        && ((t.aud 0).lane.held.map (fun f => f.drop 1))
          == some ([.reply ⟨9, .accepted, 2⟩ #v[0, 0, 0, 0], .reply ⟨8, .channelClosed, 4⟩ #v[0, 0, 0, 0]]
            ++ List.replicate 5 .empty)) = true := by decide +kernel

/-- A FULL lane at P = 2000 with packets due, a row changed on an unheard channel, and a reply. -/
def fullLane : State :=
  { carrying with auds := carrying.auds.set 0 { carrying.aud 0 with
      lane := { Lane.start with
        state := .full, dirty := [(1, 2)], replies := [⟨9, .accepted, 2⟩] } } }

theorem test_meets_FramesFilledByLevel :
    (fullLane.aud 0).lane.state = .full ∧ fullLane.composes 0 2 = true ∧ fullLane.composes 0 1 = false
      ∧ (fullLane.stream 0 2).lostIn 0 2036 = 0
      ∧ (fullLane.framePlan 0).packets = [] ∧ (fullLane.framePlan 0).replies.length = 1
      ∧ answers (exec (.laneFrame 0) fullLane) (fun t => (t.aud 0).lane.dirty.isEmpty
          && (t.aud 0).lane.replies.isEmpty) = true := by decide +kernel

/-- At B = 2024 cue 7 loses its AWAITED packet at 2030 and reports it; cue 8 loses none. -/
theorem test_meets_FramesFilledByLevel_late :
    let s := fullLane.setStream 0 2 { fullLane.stream 0 2 with
      queue := [⟨7, 4, 2030, none⟩, ⟨8, 0, 2120, some [2]⟩] }
    ((s.stream 0 2).reportedIn 0 2036).map Carriage.ordinal = [7]
      ∧ answers (exec (.laneFrame 0) s) (fun t => (t.incident 0).code == .audioLate && (t.incident 0).ordinal == 7
        && (t.aud 0).counters[(9 : Fin 16)] == 1) = true := by decide +kernel

/-- A SPARSE lane at its tenth number with the streams of `carrying`: the late packet goes, and no packet is placed. -/
theorem test_meets_FramesFilledByLevel_sparse :
    let s := (fullLane.setStream 0 2 { fullLane.stream 0 2 with
      queue := [⟨7, 4, 2030, none⟩, ⟨8, 0, 2120, some [2]⟩] }).updLane 0 (fun l =>
        { l with state := .sparse, frameNumber := 9 })
    (s.aud 0).lane.state = .sparse ∧ ((s.aud 0).lane.frameNumber + 1).toNat % 10 = 0
      ∧ answers (exec (.laneFrame 0) s) (fun t => (t.stream 0 2).queue == [⟨8, 0, 2120, some [2]⟩]
        && (t.aud 0).counters[(9 : Fin 16)] == 1 && (t.aud 0).counters[(8 : Fin 16)] == 0) = true := by
  decide +kernel

/-- At B = 2024 index 0 of cue 7 is late: its carriage, of one packet, is complete, and the fetch passes to cue 8. -/
theorem test_meets_FramesFilledByLevel_moves :
    let s := fullLane.setStream 0 2 { fullLane.stream 0 2 with
      cues := [⟨7, 5, 2000, 0, 1, false, false⟩, ⟨8, 6, 2120, 0, 4, false, false⟩], fetch := some 7, nextIndex := 0
      queue := [] }
    s.composes 0 2 = true ∧ CuesApart (s.stream 0 2)
      ∧ (∀ z ∈ (s.stream 0 2).behindFetch, ∀ p ∈ (s.stream 0 2).queue, p.ordinal ≠ z.ordinal)
      ∧ answers (exec (.laneFrame 0) s) (fun t => (t.stream 0 2).fetch == some 8
        && (t.stream 0 2).nextIndex == 0 && (t.stream 0 2).cues.length == 1
        && (t.aud 0).counters[(12 : Fin 16)] == 1 && (t.aud 0).window.leaves == [⟨5, 7⟩]) = true :=
  ⟨by decide +kernel, ⟨by decide +kernel, by decide +kernel⟩, by decide +kernel, by decide +kernel⟩

theorem test_meets_FrameAndRequestLayouts :
    (List.replicate 240 (7 : Byte)).length ≤ 240
      ∧ (FrameSlot.bytes (.audio 3 9 1500 103679999 (List.replicate 240 7))).length = 256
      ∧ readSegmentDesc (descBytes 100) = ⟨0x1000#64, 100, 0, 10⟩ ∧ readCueRecord clearBytes = clearRecord
      ∧ (readPacketDescs (List.replicate 24 1))[1]? = none
      ∧ (readPacketDescs ([8, 0, 0, 0, 0, 0, 0, 0, 240] ++ List.replicate 7 0))[0]? = some ⟨8, 240⟩
      ∧ (readHostCells [0x41, 0x1A, 0x42, 0x8F])[1]? = some ⟨0x42, 0x8F⟩ := by decide +kernel

/-- An uplink message of a device, with its check. -/
def uplink (kind arg : Byte) : Vector Byte 8 := #v[1, 0, 0, 0, kind, arg, 0, 1 + kind + arg]

/-- A FULL lane with so many messages in its intake. -/
def intaken (n : Nat) (m : UplinkMessage) : Auditorium :=
  { laneIn .full 1 with
    lane := { (laneIn .full 1).lane with intake := List.replicate n m, zeroAudience := 29, overflow := true } }

theorem test_meets_SweepAndIntake :
    (on.aud 0).lane.state = .off ∧ ((part (laneIn .full 1)).aud 0).lane.state ≠ .off
      ∧ ((part (laneIn .full 1)).aud 0).lane.overflow = false
      ∧ ((part (intaken 8 ⟨1, .join, 0⟩)).aud 0).lane.overflow = true
      ∧ readUplink (uplink 4 0) = some ⟨1, .leave, 0⟩ ∧ readUplink (uplink 5 0) = none
      ∧ readUplink #v[0, 0, 0, 0, 1, 0, 0, 1] = none ∧ readUplink #v[1, 0, 0, 0, 1, 0, 0, 3] = none
      ∧ answers (exec (.uplinkArrival 0 (uplink 1 0)) (part (intaken 7 ⟨1, .join, 0⟩)))
          (fun t => (t.aud 0).lane.intake.length == 8) = true
      ∧ answers (exec (.uplinkArrival 0 (uplink 1 0)) (part (intaken 8 ⟨1, .join, 0⟩)))
          (fun t => (t.aud 0).lane.intake.length == 8) = true
      ∧ answers (exec (.laneSweep 0) (part (intaken 8 ⟨1, .join, 0⟩)))
          (fun t => decide ((t.aud 0).lane.state = .sparse)) = true := by decide +kernel

/-- A part with one message in auditorium 0's intake, channel 3 of it TEXT, and the table given. -/
def messaged (m : UplinkMessage) (entries : Vector (Option Device) 1024) : State :=
  { part { intaken 1 m with
      release := { Release.reset with
        channels := Release.reset.channels.set 3 { ChannelDescriptor.reset with kind := .text } } } with
    devices := { DeviceTable.reset with entries := entries } }

/-- A table of 1,024 devices of auditorium 1, ids from 100 on. -/
def fullTable (st : DeviceStatus) : Vector (Option Device) 1024 :=
  vofFn (fun i => some ⟨BitVec.ofNat 32 (100 + i.val), 1, 0, 5, st⟩)

theorem test_meets_JoinTakesAnEntry :
    (messaged ⟨9, .join, 3⟩ DeviceTable.reset.entries).nextMessage = some (0, ⟨9, .join, 3⟩)
      ∧ ((messaged ⟨9, .join, 3⟩ DeviceTable.reset.entries).aud 0).lane.state ≠ .off
      ∧ on.nextMessage = none
      ∧ ChannelOpen (messaged ⟨9, .join, 3⟩ DeviceTable.reset.entries) 0 ⟨9, .join, 3⟩ 3
      ∧ (∀ c, ¬ChannelOpen (messaged ⟨9, .join, 4⟩ DeviceTable.reset.entries) 0 ⟨9, .join, 4⟩ c)
      ∧ EntryOf (messaged ⟨1123, .join, 3⟩ (fullTable .active)) 1123 1023 ⟨1123, 1, 0, 5, .active⟩ := by
  refine ⟨by decide, by decide, by decide, ⟨by decide, by decide⟩, ?_, ⟨by decide +kernel, by decide⟩⟩
  rintro c ⟨h, -⟩
  exact absurd h (by revert c; decide)

theorem test_meets_JoinTakesAnEntry_full :
    answers (exec .join (messaged ⟨9, .join, 3⟩ (fullTable .active)))
        (fun t => (t.incident 0).code == .deviceTableFull) = true
      ∧ answers (exec .join (messaged ⟨9, .join, 3⟩ ((fullTable .active).set 4
          (some ⟨104, 1, 0, 5, .quietSilent⟩))))
        (fun t => decide (t.devices.entries[(4 : Fin 1024)] = some ⟨9, 0, 3, 0, .active⟩)) = true := by
  decide +kernel

/-! ### Sound states: the invariants' hypotheses, in a part that is enabled -/

/-- A table with one ACTIVE device, 9, on channel 3 of auditorium 0, at entry 0. -/
def oneDevice : DeviceTable :=
  { DeviceTable.reset with
    entries := DeviceTable.reset.entries.set 0 (some ⟨9, 0, 3, 5, .active⟩)
    audience := DeviceTable.reset.audience.set 0 ((Vector.replicate 4 0).set 3 1) }

theorem oneDevice_entry (i : Fin 1024) (d : Device) (h : oneDevice.entries[i] = some d) : i = 0 := by
  by_contra hi
  simp [oneDevice, DeviceTable.reset, Vector.getElem_set] at h
  exact hi (Fin.ext h.1.symm)

theorem test_meets_AudienceCountsActiveDevices : DevicesOk oneDevice := by
  refine ⟨?_, ?_, by decide, by decide, by decide⟩
  · have entries : oneDevice.entries.toList = some ⟨9, 0, 3, 5, .active⟩ :: List.replicate 1023 none := by
      decide +kernel
    unfold DeviceTable.activeOn
    rw [entries]
    simp only [List.filter_cons, List.filter_replicate]
    decide +kernel
  · intro i j d e hd he _
    rw [oneDevice_entry i d hd, oneDevice_entry j e he]

/-- A message of device 9 on its own lane. -/
def known (m : UplinkMessage) : State := { messaged m DeviceTable.reset.entries with devices := oneDevice }

theorem test_meets_KnownDevicesHeardAndAged :
    DevicesOk (known ⟨9, .alive, 3⟩).devices ∧ (known ⟨9, .alive, 3⟩).nextMessage = some (0, ⟨9, .alive, 3⟩)
      ∧ ((known ⟨9, .alive, 3⟩).aud 0).lane.state ≠ .off
      ∧ EntryOf (known ⟨9, .alive, 3⟩) 9 0 ⟨9, 0, 3, 5, .active⟩
      ∧ (∀ i d, EntryOf (known ⟨8, .leave, 3⟩) 8 i d → d.auditorium ≠ 0) := by
  refine ⟨test_meets_AudienceCountsActiveDevices, by decide, by decide, ⟨by decide +kernel, by decide⟩, ?_⟩
  rintro i d ⟨h, hid⟩
  have hi := oneDevice_entry i d h
  subst hi
  have hd : (some d : Option Device) = some ⟨9, 0, 3, 5, .active⟩ := h.symm.trans (by decide +kernel)
  simp at hd
  subst hd
  exact absurd hid (by decide)

theorem test_meets_KnownDevicesHeardAndAged_sweep (a : Aud) (c : Chan) :
    oneDevice.audience[a][c] = oneDevice.activeOn a c :=
  test_meets_AudienceCountsActiveDevices.audience a c

/-- A request of the least that asks for SHOW. -/
def showRequest : SlotRequest where
  generation := 1
  requested := .show
  stateBad := false
  editRate := 5
  segmentCount := 32
  reference := 0x2000#64
  tcOffset := 700
  freewheelLimit := 5000
  catchUpLimit := 10
  keepBack := 500000
  acknowledge := 0
  channels := Vector.replicate 4 ChannelDescriptor.reset
  kindBad := Vector.replicate 4 false

/-- An auditorium in CLOSING with a request pending, its drained event handed. -/
def closing (r : Option SlotRequest) : State :=
  { part { Auditorium.reset with state := .closing, pendingRequest := r, lane := Lane.start } with
    fetch := { FetchEngine.reset with drained := (Vector.replicate 16 false).set 0 true } }

theorem test_meets_ShowsAttachAndClose :
    on.fetch.drained[(0 : Fin 16)] = false ∧ (closing none).fetch.drained[(0 : Fin 16)] = true
      ∧ ((closing none).aud 0).state = .closing ∧ ((closing none).aud 0).pendingRequest = none
      ∧ ((closing (some showRequest)).aud 0).pendingRequest = some showRequest
      ∧ ({ closing none with auds := State.reset.auds }.aud 0).state ≠ .closing
      ∧ answers (exec (.drained 0) (closing (some showRequest)))
          (fun t => decide ((t.aud 0).state = .show) && t.fetch.attachGen[(0 : Fin 16)] == 1) = true := by
  decide +kernel

theorem test_meets_LifecycleTakesRequests :
    showRequest.refused = false ∧ { showRequest with editRate := 6 }.refused = true
      ∧ { showRequest with segmentCount := 33 }.refused = true ∧ { showRequest with segmentCount := 0 }.refused = true
      ∧ { showRequest with reference := 0 }.refused = true
      ∧ ((on.handRequest 0 showRequest).aud 0).state = .show
      ∧ ((on.handRequest 0 showRequest).aud 0).tracker.tcOffset = 600
      ∧ ((on.handRequest 0 showRequest).aud 0).tracker.catchUpLimit = 24
      ∧ (((on.handRequest 0 showRequest).handRequest 0 { showRequest with segmentCount := 31 }).aud 0).state
          = .closing := by decide +kernel

/-- A COMPLETE table of one segment loads on from the load cursor after an append, a LOADING one does not. -/
theorem test_meets_LifecycleTakesRequests_append :
    let s := fun (st : TableState) => part { playing .free with
      programme := { (playing .free).programme with tableState := st, loadCursor := 1 } }
    ((s .complete).aud 0).programme.segmentCount < 3
      ∧ (((s .complete).append 0 3).aud 0).programme.tableState = .loading
      ∧ ((s .complete).append 0 3).fetch.queue.map (fun q => q.request.length) = [64]
      ∧ ((s .loading).append 0 3).fetch.queue = [] := by decide +kernel

/-- The part with a MINOR record written for slot 0, and then the overflow flag set. -/
def reported (overflow : Bool) : State :=
  on.setIncident 0 { IncidentRecord.reset with
    valid := true, overflow := overflow, code := .textLate, minorCount := 1, sequence := 1 }

theorem test_meets_IncidentRecordsFollowReports :
    (on.incident 0).valid = false ∧ ((reported false).incident 0).valid = true
      ∧ ((reported false).incident 0).severity = .minor ∧ ((reported false).incident 0).overflow = false
      ∧ ((reported true).incident 0).overflow = true ∧ ((reported true).incident 0).sequence = 1
      ∧ ((reported true).incident 0).countChanged = false
      ∧ ((reported true).report 0 .minor .textLate none none |>.incident 0).countChanged = true
      ∧ ((reported true).report 0 .major .cueMissed none (some 3) |>.incident 0).code = .cueMissed := by decide

/-- The first blocks of the pool held by entry 5 of auditorium 0. -/
def holding : State :=
  { part (playing (.judged .loading { cue .text with blocks := [0] })) with
    pool := { Pool.reset with
      blocks := Pool.reset.blocks.set 0 ⟨some (0, 5), Vector.replicate 16 ⟨0, 0⟩⟩
      reserveHeld := Pool.reset.reserveHeld.set 0 1 } }

/-- Every auditorium of a part but the first is at reset. -/
theorem part_aud (x : Auditorium) (a : Aud) : (part x).aud a = if a = 0 then x else Auditorium.reset := by
  by_cases h : a = 0
  · subst h; simp [part, State.aud, State.setAud]
  · have h' : (0 : Nat) ≠ a.val := fun e => h (Fin.ext e.symm)
    simp [part, State.aud, State.setAud, on, State.reset, h, h']

theorem holding_holder (b : BlockIx) : holding.pool.blocks[b].holder = if b = 0 then some (0, 5) else none := by
  by_cases h : b = 0
  · subst h; simp [holding]
  · have h' : (0 : Nat) ≠ b.val := fun e => h (Fin.ext e.symm)
    simp [holding, Pool.reset, h, h']

theorem holding_heldBy (b : BlockIx) (a : Aud) : holding.pool.blocks[b].heldBy a = decide (b = 0 ∧ a = 0) := by
  unfold PoolBlock.heldBy
  rw [holding_holder]
  by_cases h : b = 0 <;> simp [h, eq_comm]

theorem holding_blocks (a : Aud) (e : EntryIx) :
    ((holding.aud a).window.entry e).blocks = if a = 0 ∧ e = 5 then [0] else [] := by
  have h : holding.aud a = _ := part_aud _ a
  rw [h]
  by_cases ha : a = 0
  · simp only [ha, if_true, true_and]
    revert e
    decide
  · simp only [ha, if_false, false_and]
    revert e
    decide

theorem test_meets_PoolAgreesWithWindows : PoolOk holding := by
  have none : ∀ a : Aud, (holding.aud a).window.poolWait = [] := by decide
  refine ⟨?_, ?_, ?_, ?_, ?_, fun a => by simp [none a], ?_⟩
  · intro b a e
    rw [holding_holder, holding_blocks]
    by_cases hb : b = 0 <;> by_cases h : a = 0 ∧ e = 5 <;> simp [hb, h]
    exact fun ha he => h ⟨ha.symm, he.symm⟩
  · intro a e
    rw [holding_blocks]
    split <;> simp
  · intro b a e _ h
    rw [holding_holder] at h
    split at h
    · next hb => simp at h; simp [hb, ← h.1]
    · simp at h
  · intro a
    simp only [holding_heldBy]
    by_cases h : a = 0
    · subst h; decide +kernel
    · have held : holding.pool.reserveHeld[a] = 0 := by revert a; decide
      simp [h, held]
  · intro a
    simp only [holding_heldBy]
    by_cases h : a = 0
    · subst h; decide +kernel
    · have held : holding.pool.sharedHeld[a] = 0 := by revert a; decide
      simp [h, held]
  · intro a e he
    rw [none a] at he
    simp at he

theorem test_meets_PoolGrantIsWholeOrNothing : PoolOk holding ∧ (holding.pool.choose 0 15).isSome = true
      ∧ holding.pool.choose 0 2 = some [1, 2] ∧ holding.pool.choose 0 16 = some ((List.finRange 512).drop 256 |>.take 16) :=
  ⟨test_meets_PoolAgreesWithWindows, by decide +kernel, by decide +kernel, by decide +kernel⟩

theorem test_meets_TrackersStayInRange : (part { showing with tracker := lockedAt 103679999 }).TrackersOk := by
  have each : ∀ a : Aud, ((part { showing with tracker := lockedAt 103679999 }).aud a).tracker
      = if a = 0 then lockedAt 103679999 else Tracker.reset := by decide
  intro a
  rw [each a]
  split
  · exact ⟨by decide, by decide, by decide, by decide, by decide, nofun, by decide, by decide,
      fun n h => by cases h; decide, nofun, by decide, by decide, by decide⟩
  · exact ⟨by decide, by decide, by decide, by decide, by decide, nofun, by decide, by decide, nofun, nofun,
      by decide, by decide, by decide⟩

theorem test_meets_FetchCountsStayRight : FetchOk reading.fetch :=
  ⟨by decide, by decide, by decide, by decide, by decide, by decide, by decide⟩

theorem test_meets_DisabledPartStaysStill : StoppedOk on :=
  ⟨by decide, by decide, by decide, by decide, by decide⟩

theorem test_meets_WindowsMatchTheirStates (a : Aud) :
    WindowOk ((part (playing (.judged .active (cue .text)))).aud a) := by
  rw [part_aud]
  split <;> exact ⟨by decide, by decide +kernel, by decide, by decide⟩

/-- A show with a row of a TEXT channel owned by cue 7. -/
def captioned : Auditorium :=
  { playing (.judged .active { cue .text with firstRow := 2 }) with
    release := { Release.reset with
      channels := Release.reset.channels.set 1 { ChannelDescriptor.reset with kind := .text }
      pages := Release.reset.pages.set 1 (Release.reset.pages[(1 : Fin 4)].set 2
        ⟨Row.blankCells, some ⟨7, 1000⟩, 1⟩) } }

theorem test_meets_PagesStaySound (a : Aud) : PagesOk ((part captioned).aud a) := by
  have rows : ∀ (c : Chan) (r : RowIx), captioned.release.pages[c][r].owner
      = if c = 1 ∧ r = 2 then some ⟨7, 1000⟩ else none := by decide +kernel
  have blank : ∀ (c : Chan) (r : RowIx), Auditorium.reset.release.pages[c][r].owner = none := by decide +kernel
  rw [part_aud]
  split
  · refine ⟨by decide +kernel, by decide +kernel, by decide +kernel, fun c r o h => ?_⟩
    rw [rows] at h
    split at h
    · next hr =>
      obtain ⟨rfl, rfl⟩ := hr
      cases h
      exact ⟨5, { cue .text with firstRow := 2 }, by decide, by decide, by decide, by decide, by decide, by decide⟩
    · cases h
  · exact ⟨by decide +kernel, by decide +kernel, by decide +kernel, fun c r o h =>
      absurd ((blank c r).symm.trans h) nofun⟩

/-- A later cue takes the row from cue 7, which starts with it and has the lower ordinal; an earlier one does not. -/
theorem test_meets_RowsTakenByOwnership :
    (((part captioned).placeRows 0 { cue .text with ordinal := 8, firstRow := 2 }).1.row 0 1 2).owner
        = some ⟨8, 1000⟩
      ∧ (((part captioned).placeRows 0 { cue .text with ordinal := 6, firstRow := 2 }).1.row 0 1 2).owner
        = some ⟨7, 1000⟩
      ∧ (((part captioned).placeRows 0 { cue .text with ordinal := 8, firstRow := 2 }).1.row 0 1 3).owner
        = none
      ∧ { cue .text with blocks := [3, 9, 4] }.blocks[(40 * (2 - 2) + 39) / 16]? = some 4
      ∧ (7 : Fin 16).val = 39 % 16 := by decide +kernel

/-- The row of cue 7 against an earlier cue, which is superseded, a CLEAR, and its own end. -/
theorem test_meets_CuesReleasedEndedAndMissed_rows :
    let s := part captioned
    s.rowsToTake 0 { cue .text with ordinal := 6, firstRow := 2 } = []
      ∧ ((s.releaseEntry 0 6 { cue .text with ordinal := 6, firstRow := 2 } 1000 false).aud 0).counters[
        (6 : Fin 16)] = 1
      ∧ s.rowsToClear 0 { cue .clear with firstRow := 2 } = [(1, 2)]
      ∧ s.rowsToClear 0 { cue .clear with firstRow := 2, start := 999 } = []
      ∧ (s.aud 0).rowsOwnedBy 7 = [(1, 2)]
      ∧ ((s.endEntry 0 5 (cue .text)).row 0 1 2) = ⟨Row.blankCells, none, 2⟩
      ∧ ((State.walkStep 1100 false 0 s ⟨1100, 0, 1000, 7, 5⟩).aud 0).window.leaves = [⟨5, 7⟩] := by decide +kernel

/-- A leave that waited across a seek blanks the row of the ACTIVE entry it frees. -/
theorem test_meets_LeaveFreesItsEntry_active :
    answers (exec (.windowLeave 0) ((part captioned).updWindow 0 (fun w => { w with leaves := [⟨5, 7⟩] }))) (fun t =>
      decide (t.row 0 1 2 = ⟨Row.blankCells, none, 2⟩) && decide ((t.aud 0).window.entry 5 = .free)) = true := by
  decide +kernel

/-- Channel 1 of a show goes from TEXT to AUDIO: its row is blanked, its device is QUIET; four kind codes clamp. -/
theorem test_meets_RequestsReconfigureChannels :
    let s := { part captioned with devices := { oneDevice with
      entries := oneDevice.entries.set 0 (some ⟨9, 0, 1, 5, .active⟩) } }
    let q := { showRequest with
      channels := showRequest.channels.set 1 { ChannelDescriptor.reset with kind := .audio } }
    let t := s.takeDescriptors 0 q
    (t.row 0 1 2).owner = none ∧ t.devices.entries[(0 : Fin 1024)] = some ⟨9, 0, 1, 5, .quietClosed⟩
      ∧ ((s.takeDescriptors 0 { q with kindBad := Vector.replicate 4 true }).incident 0).minorCount = 4
      ∧ ((on.offToStandby 0 showRequest).aud 0).lane.state = .sparse
      ∧ ((on.enterOff 0).party 0).mirrorTimer = none
      ∧ ((on.takeParameters 0 { showRequest with tcOffset := -601 }).aud 0).tracker.tcOffset = -600 := by
  decide +kernel

theorem test_meets_StreamerPlacesHold (a : Aud) :
    StreamerOk ((part { describing with streamer := ((fetching [⟨8, 240⟩]).aud 0).streamer }).aud a).streamer := by
  rw [part_aud]
  split <;> exact ⟨by decide, by decide, by decide, by decide⟩

/-- A show with one ACTIVE AUDIO cue, carried on channel 2 with a packet in its queue. -/
def carried : Auditorium :=
  { playing (.judged .active (cue .audio)) with
    window := { serving (.judged .active (cue .audio)) with cursor := some (0, 8) }
    streamer := { Streamer.reset with
      bufferCount := 1
      streams := Streamer.reset.streams.set 2 { Stream.reset with
        cues := [⟨7, 5, 1000, 0, 4, false, false⟩], fetch := some 7, nextIndex := 1
        queue := [⟨7, 0, 1000, none⟩] } } }

theorem test_meets_CuesStayApart (a : Aud) :
    WindowOk ((part carried).aud a) ∧ CuesOk ((part carried).aud a) := by
  have held : ∀ e : EntryIx, (carried.window.entry e).ordinal? = if e = 5 then some 7 else none := by decide +kernel
  have only : ∀ (c : Chan), ∀ y ∈ carried.streamer.streams[c].cues, y = ⟨7, 5, 1000, 0, 4, false, false⟩ := by
    decide +kernel
  have none' : ∀ e : EntryIx, (Auditorium.reset.window.entry e).ordinal? = none := by decide +kernel
  have bare : ∀ c : Chan, Auditorium.reset.streamer.streams[c] = Stream.reset := by decide +kernel
  rw [part_aud]
  split
  · refine ⟨⟨by decide, by decide +kernel, by decide, by decide⟩, ⟨fun e e' o h h' => ?_, ?_, nofun, by decide, ?_, ?_⟩⟩
    · rw [held] at h h'
      split at h <;> split at h' <;> simp_all
    · rintro sg i ⟨⟩ e o h
      rw [held] at h
      split at h <;> simp_all
      omega
    · exact fun c => ⟨⟨by revert c; decide +kernel, by revert c; decide +kernel⟩, by revert c; decide +kernel,
        by revert c; decide +kernel, by revert c; decide +kernel, by revert c; decide +kernel⟩
    · rintro c y h
      cases only c y h
      exact ⟨cue .audio, by decide, rfl, rfl⟩
  · refine ⟨⟨by decide, by decide +kernel, by decide, by decide⟩,
      ⟨fun e e' o h => absurd ((none' e).symm.trans h) nofun, nofun, fun _ => by decide +kernel, by decide, ?_, ?_⟩⟩
    · intro c
      rw [bare]
      exact ⟨⟨by decide, by decide⟩, by decide, by decide, by decide, by decide⟩
    · intro c y h
      rw [bare] at h
      exact nomatch (show y ∈ ([] : List Carriage) from h)

theorem test_meets_LanesStaySound (a : Aud) : LaneOk ((part (intaken 8 ⟨1, .join, 0⟩)).aud a) := by
  rw [part_aud]
  split <;> exact ⟨by decide, by decide, by decide, by decide, nofun, nofun, by decide, by decide⟩

theorem test_meets_IncidentRecordsStaySound : IncidentsOk (reported true) := by
  have each : ∀ p : Party, (reported true).incident p
      = if p = 0 then (reported true).incident 0 else IncidentRecord.reset := by decide
  refine ⟨fun p => ?_, by decide⟩
  rw [each p]
  split <;> exact ⟨by decide, by decide, by decide, by decide⟩

theorem test_meets_AuditoriumsStandApart :
    (Instr.laneFrame 3).auditorium? = some 3 ∧ (4 : Aud) ≠ 3
      ∧ answers (exec (.laneFrame 3) on) (fun _ => true) = true := by decide

/-- The premise that a step answers a next state is met by the sound states: an idle step, and a command. -/
theorem test_meets_steps :
    answers (step on) (fun t => decide (t.pending = [])) = true
      ∧ answers (step { on with pending := [.deviceSweep, .join] }) (fun t => decide (t.pending = [.join])) = true := by
  decide +kernel

end Sys2Proof.Tests
end

section
/-! PROOFS. The Position Tracker: what its operations come to, case by case, and the statements about arrivals and
about the way of timecode from the line to the tracker. -/

namespace Sys2Proof.Machine

/-! ### An arrival, by the state of the context -/

/-- R13, with R8's loss span. -/
theorem arrive_of_idle_or_held {t : Tracker} (position frame : Nat) (h : t.state = .idle ∨ t.state = .held) :
    t.arrive position frame = { t with lossSpan := 3 * frame }.enterAcquire position := by
  rcases h with h | h <;> simp [Tracker.arrive, h]

theorem arrive_of_acquire {t : Tracker} (position frame : Nat) (h : t.state = .acquire) :
    t.arrive position frame = { t with lossSpan := 3 * frame }.arriveAcquire position frame := by
  simp [Tracker.arrive, h]

theorem arrive_of_running {t : Tracker} (position frame : Nat) (h : t.state = .locked ∨ t.state = .freewheel) :
    t.arrive position frame = { t with lossSpan := 3 * frame }.classify position := by
  rcases h with h | h <;> simp [Tracker.arrive, h]

theorem arrive_of_paused {t : Tracker} (position frame : Nat) (h : t.state = .paused) :
    t.arrive position frame = { t with lossSpan := 3 * frame }.arrivePaused position := by
  simp [Tracker.arrive, h]

/-- In PAUSED a word that differs from last_tc is classified as in LOCKED (R21). -/
theorem arrive_of_fresh {t : Tracker} (position frame : Nat)
    (h : t.state = .locked ∨ t.state = .freewheel ∨ t.state = .paused) (fresh : t.lastTc ≠ some position) :
    t.arrive position frame = { t with lossSpan := 3 * frame }.classify position := by
  rcases h with h | h | h
  · exact arrive_of_running position frame (.inl h)
  · exact arrive_of_running position frame (.inr h)
  · rw [arrive_of_paused position frame h, Tracker.arrivePaused, if_neg fresh]

/-! ### Acquisition -/

/-- The agreement that an arrival in ACQUIRE leaves (R14). -/
def Tracker.agreeAfter (t : Tracker) (last position frame : Nat) : Nat :=
  if position = last + frame ∨ position = last then t.agree + 1 else 1

/-- An arrival in ACQUIRE places est at the third agreement, and only counts the agreement before it (R14, R15). -/
theorem arriveAcquire_eq {t : Tracker} {last : Nat} (position frame : Nat) (h : t.lastTc = some last) :
    t.arriveAcquire position frame =
      let u := { t with
        agree := t.agreeAfter last position frame, lastTc := some position, lossTimer := some 0 }
      if 3 ≤ t.agreeAfter last position frame then u.place position (decide (position = last + frame))
      else .quiet u := by
  have advance : ((position : Int) - (last : Int) = (frame : Int)) ↔ position = last + frame := by omega
  have still : ((position : Int) - (last : Int) = 0) ↔ position = last := by omega
  have count : (if decide (position = last + frame) || decide (position = last) then t.agree + 1 else 1)
      = t.agreeAfter last position frame := if_congr (by simp) rfl rfl
  simp only [Tracker.arriveAcquire, h, Option.getD_some, Option.isSome_some, Bool.true_and, advance, still, count]

/-! ### Classification -/

/-- R17, with the common effects of R16. -/
theorem classify_of_repeat {t : Tracker} {position : Nat} (h : t.lastTc = some position) :
    t.classify position =
      { t with state := .locked, lossTimer := some 0, holdTimer := none }.repeatCase position := by
  rw [Tracker.classify, if_pos h]

/-- The slew, catch-up and seek of a word that differs from last_tc, with the common effects (R16, R18 to R20). -/
theorem classify_of_fresh {t : Tracker} {position : Nat} (h : t.lastTc ≠ some position) :
    t.classify position =
      let error : Int := (position : Int) - (t.est.rounded : Int)
      let u := { t with
        state := .locked, lossTimer := some 0, holdTimer := none, repeats := 0, lastTc := some position }
      if -6 ≤ error ∧ error ≤ 6 then u.slewCase error
      else if 6 < error ∧ error ≤ (t.catchUpLimit : Int) then u.catchUpCase position
      else u.orderSeek position := by
  rw [Tracker.classify, if_neg h]

/-- The first repeat is counted; the next pauses the tracker at the position (R17). -/
theorem repeatCase_eq (t : Tracker) (position : Nat) :
    t.repeatCase position =
      if t.repeats = 0 then .quiet { t with repeats := 1 }
      else .quiet { t with state := .paused, repeats := 2, est := ⟨position, 0⟩ } := by
  unfold Tracker.repeatCase
  by_cases h : t.repeats = 0
  · rw [if_pos h, h, if_pos (by decide)]
  · rw [if_neg h, if_neg (by omega)]

/-! ### The loss span -/

@[simp] theorem arriveAcquire_lossSpan (t : Tracker) (position frame : Nat) :
    (t.arriveAcquire position frame).tracker.lossSpan = t.lossSpan := by
  unfold Tracker.arriveAcquire
  dsimp only
  split_ifs <;> rfl

@[simp] theorem repeatCase_lossSpan (t : Tracker) (position : Nat) :
    (t.repeatCase position).tracker.lossSpan = t.lossSpan := by
  unfold Tracker.repeatCase
  split <;> rfl

@[simp] theorem classify_lossSpan (t : Tracker) (position : Nat) :
    (t.classify position).tracker.lossSpan = t.lossSpan := by
  by_cases h : t.lastTc = some position
  · rw [classify_of_repeat h, repeatCase_lossSpan]
  · rw [classify_of_fresh h]
    dsimp only
    split
    · rfl
    · split <;> rfl

@[simp] theorem arrivePaused_lossSpan (t : Tracker) (position : Nat) :
    (t.arrivePaused position).tracker.lossSpan = t.lossSpan := by
  unfold Tracker.arrivePaused
  split
  · rfl
  · exact classify_lossSpan t position

/-- Whatever the state, an arrival leaves the loss span of its own rate: no case changes it after R8 has set it. -/
theorem arrive_lossSpan (t : Tracker) (position frame : Nat) :
    (t.arrive position frame).tracker.lossSpan = 3 * frame := by
  cases h : t.state with
  | idle => rw [arrive_of_idle_or_held position frame (.inl h)]; rfl
  | held => rw [arrive_of_idle_or_held position frame (.inr h)]; rfl
  | acquire => rw [arrive_of_acquire position frame h, arriveAcquire_lossSpan]
  | locked => rw [arrive_of_running position frame (.inl h), classify_lossSpan]
  | freewheel => rw [arrive_of_running position frame (.inr h), classify_lossSpan]
  | paused => rw [arrive_of_paused position frame h, arrivePaused_lossSpan]

/-! ### The line receiver -/

theorem exec_timecodeLineByte (a : Aud) (b : Byte) (s : State) :
    exec (.timecodeLineByte a b) s = .next (s.updLine a (fun l => l.take b)) := rfl

/-- Outside a word a byte other than the sync byte is dropped (R5). -/
theorem take_other {l : LineReceiver} {b : Byte} (outside : l.partialWord = []) (h : b ≠ 0xA5#8) : l.take b = l := by
  simp [LineReceiver.take, outside, Config.syncByte, h]

theorem take_sync {l : LineReceiver} (outside : l.partialWord = []) :
    l.take 0xA5#8 = { l with partialWord := [0xA5#8] } := by
  simp [LineReceiver.take, outside, Config.syncByte]

theorem take_inside {l : LineReceiver} (b : Byte) (inside : l.partialWord ≠ []) (h : l.partialWord.length ≠ 7) :
    l.take b = { l with partialWord := l.partialWord ++ [b] } := by
  simp [LineReceiver.take, inside, h]

/-- The byte after seven completes the word, which waits for the tracker (R5, R6). -/
theorem take_completes {l : LineReceiver} (b : Byte) (h : l.partialWord.length = 7) :
    ∃ w : Vector Byte 8, w.toList = l.partialWord ++ [b] ∧ l.take b = ⟨[], l.framed ++ [w]⟩ := by
  have inside : l.partialWord ≠ [] := List.ne_nil_of_length_eq_add_one h
  refine ⟨⟨⟨l.partialWord ++ [b]⟩, by simpa using h⟩, rfl, ?_⟩
  simp [LineReceiver.take, inside, h]

/-! ### A framed word -/

@[simp] theorem readTimecode_rate (w : Vector Byte 8) : (readTimecode w).rate = w[1].toNat % 8 := by
  simp [readTimecode, lowBits]

@[simp] theorem readTimecode_hours (w : Vector Byte 8) : (readTimecode w).hours = w[2].toNat := rfl
@[simp] theorem readTimecode_minutes (w : Vector Byte 8) : (readTimecode w).minutes = w[3].toNat := rfl
@[simp] theorem readTimecode_seconds (w : Vector Byte 8) : (readTimecode w).seconds = w[4].toNat := rfl
@[simp] theorem readTimecode_frames (w : Vector Byte 8) : (readTimecode w).frames = w[5].toNat := rfl

/-- A word is valid when it fails none of R7's tests. -/
theorem timecodeValid_iff (w : Vector Byte 8) :
    timecodeValid w = true ↔
      w[7] = w[0] + w[1] + w[2] + w[3] + w[4] + w[5] + w[6] ∧ w[1].toNat % 8 ≤ 5 ∧ w[2].toNat < 24
        ∧ w[3].toNat < 60 ∧ w[4].toNat < 60 ∧ w[5].toNat < fps (w[1].toNat % 8) := by
  simp only [timecodeValid, Bool.and_eq_true, decide_eq_true_eq, and_assoc]
  simp [checkSum]

/-- A word is discarded by any one of R7's tests. -/
theorem timecodeValid_eq_false_iff (w : Vector Byte 8) :
    timecodeValid w = false ↔
      w[7] ≠ w[0] + w[1] + w[2] + w[3] + w[4] + w[5] + w[6] ∨ 6 ≤ w[1].toNat % 8 ∨ 24 ≤ w[2].toNat
        ∨ 60 ≤ w[3].toNat ∨ 60 ≤ w[4].toNat ∨ fps (w[1].toNat % 8) ≤ w[5].toNat := by
  rw [← Bool.not_eq_true, timecodeValid_iff]
  simp only [not_and_or, not_le, not_lt]
  exact Iff.rfl

/-- The oldest framed word leaves the line, and reaches the tracker (R6). -/
theorem exec_timecodeWordArrival {a : Aud} {s : State} {w : Vector Byte 8} {rest : List (Vector Byte 8)}
    (h : (s.aud a).line.framed = w :: rest) :
    exec (.timecodeWordArrival a) s
      = .next ((s.setAud a { s.aud a with line := { (s.aud a).line with framed := rest } }).wordArrival a w) := by
  change execTimecodeWordArrival a s = _
  unfold execTimecodeWordArrival
  rw [h]
  rfl

/-! ### An event of the tracker on the machine -/

/-- An order joins those of the Release Unit and of the streamer, and a seek those of the window (R27). -/
theorem handOrder_eq (s : State) (a : Aud) (o : TrackerOrder) :
    s.handOrder a o = s.setAud a { s.aud a with
      release := { (s.aud a).release with orders := (s.aud a).release.orders ++ [o] }
      streamer := { (s.aud a).streamer with orders := (s.aud a).streamer.orders ++ [o] }
      window := { (s.aud a).window with orders := (s.aud a).window.orders ++ o.forWindow } } := by
  cases o <;>
    simp [State.handOrder, State.updRelease, State.updStreamer, State.updWindow, TrackerOrder.forWindow]

/-- Bringing an event about changes the auditorium as `afterTracker` says and reports a changed state (R27, R28). -/
theorem commitTracker_eq_afterTracker (s : State) (a : Aud) (ev : TrackerEvent) :
    s.commitTracker a ev = s.afterTracker a (s.aud a) ev := by
  obtain ⟨t, order, slips, seeks⟩ := ev
  cases order <;>
    simp [State.commitTracker, State.afterTracker, Auditorium.afterTracker, State.updTracker, State.bump,
      Counter.index, handOrder_eq, eq_comm]

/-- What the auditorium held before does not matter to the event. -/
@[simp] theorem setAud_afterTracker (s : State) (a : Aud) (x y : Auditorium) (ev : TrackerEvent) :
    (s.setAud a x).afterTracker a y ev = s.afterTracker a y ev := by
  simp [State.afterTracker]

theorem wordArrival_of_not_show {s : State} {a : Aud} (w : Vector Byte 8) (h : (s.aud a).state ≠ .show) :
    s.wordArrival a w = s := by
  simp [State.wordArrival, h]

theorem wordArrival_of_discarded {s : State} {a : Aud} {w : Vector Byte 8} (h : (s.aud a).state = .show)
    (bad : timecodeValid w = false) : s.wordArrival a w = s.bump a .wordsDiscarded 1 := by
  simp [State.wordArrival, h, bad]

theorem wordArrival_of_valid {s : State} {a : Aud} {w : Vector Byte 8} (h : (s.aud a).state = .show)
    (good : timecodeValid w = true) :
    s.wordArrival a w = s.afterTracker a (s.aud a) ((s.aud a).tracker.arrive
      (timecodePosition (readTimecode w) (s.aud a).tracker.tcOffset) (tpf (w[1].toNat % 8))) := by
  simp [State.wordArrival, h, good, commitTracker_eq_afterTracker]

/-! ### The conversion -/

/-- Every rate has 1200 ticks to the second (R1). -/
theorem fps_mul_tpf {rate : Nat} (h : rate ≤ 5) : fps rate * tpf rate = 1200 := by
  interval_cases rate <;> rfl

/-- The frame of a time of day ends within the day's 103,680,000 ticks (R1, R8). -/
theorem frame_of_day_mul_tpf_le {rate hours minutes seconds frames : Nat} (hr : rate ≤ 5) (hh : hours < 24)
    (hm : minutes < 60) (hs : seconds < 60) (hf : frames < fps rate) :
    (((hours * 60 + minutes) * 60 + seconds) * fps rate + frames) * tpf rate + tpf rate ≤ 103680000 := by
  have second : (hours * 60 + minutes) * 60 + seconds + 1 ≤ 86400 := by omega
  calc (((hours * 60 + minutes) * 60 + seconds) * fps rate + frames) * tpf rate + tpf rate
      = (((hours * 60 + minutes) * 60 + seconds) * fps rate + (frames + 1)) * tpf rate := by ring
    _ ≤ (((hours * 60 + minutes) * 60 + seconds) * fps rate + fps rate) * tpf rate := by gcongr; omega
    _ = ((hours * 60 + minutes) * 60 + seconds + 1) * (fps rate * tpf rate) := by ring
    _ ≤ 86400 * 1200 := by rw [fps_mul_tpf hr]; gcongr

/-- The converted position is the sum of R8 brought into 0..103,679,999. -/
theorem timecodePosition_eq (t : Timecode) (offset : Int) :
    let frames := ((t.hours * 60 + t.minutes) * 60 + t.seconds) * fps t.rate + t.frames
    let sum : Int := (frames * tpf t.rate : Nat) + offset
    (timecodePosition t offset : Int)
      = if sum < 0 then 0 else if 103679999 < sum then 103679999 else sum := by
  dsimp only [timecodePosition, Config.maxPosition]
  split
  · omega
  · split <;> omega

end Sys2Proof.Machine

namespace Sys2Proof.Proofs

open Sys2Proof.Machine

/-- Settles O7: the cases of the line receiver, of a framed word and of the conversion, one lemma for each. -/
theorem timecodeReachesTracker : Obligations.TimecodeReachesTracker := by
  refine ⟨fun a b s => ⟨_, exec_timecodeLineByte a b s, ?_⟩, fun a s w rest framed => ?_, arrive_lossSpan,
    fun w offset valid => ?_⟩
  · simp only [updLine_aud_line]
    refine ⟨rfl, take_other, ?_, take_inside b, take_completes b⟩
    rintro outside rfl
    exact take_sync outside
  · simp only [exec_timecodeWordArrival framed, ← timecodeValid_eq_false_iff, Bool.not_eq_false]
    refine ⟨fun hs => ?_, fun hs bad => ?_, fun hs good => ?_⟩
    · rw [wordArrival_of_not_show w (by simpa using hs)]
    · rw [wordArrival_of_discarded (by simpa using hs) bad]
      simp [State.bump, Counter.index]
    · rw [wordArrival_of_valid (by simpa using hs) good]
      simp
  · obtain ⟨-, rate, hours, minutes, seconds, frames⟩ := (timecodeValid_iff w).mp valid
    have day := frame_of_day_mul_tpf_le rate hours minutes seconds frames
    refine ⟨rate, by simpa using timecodePosition_eq (readTimecode w) offset, fun _ _ => ?_⟩
    omega

/-- Settles O8: the state of the context picks the operation, whose equation is the case of the statement. -/
theorem arrivalsByTrackerState : Obligations.ArrivalsByTrackerState := by
  refine ⟨fun t position frame => ⟨arrive_of_idle_or_held position frame, fun last acquire known => ?_⟩,
    fun t position frame => ⟨fun running known => ?_, fun paused known => ?_, fun state fresh => ?_⟩⟩
  · have eq := (arrive_of_acquire position frame acquire).trans
      (arriveAcquire_eq (t := { t with lossSpan := 3 * frame }) position frame known)
    refine ⟨fun few => ?_, fun enough advance => ?_, fun enough still => ?_⟩
    · exact eq.trans (if_neg (Nat.not_le.mpr few))
    · refine eq.trans ((if_pos enough).trans ?_)
      rw [decide_eq_true advance]
      rfl
    · refine eq.trans ((if_pos enough).trans ?_)
      rw [decide_eq_false still]
      rfl
  · rw [arrive_of_running position frame running, classify_of_repeat (t := { t with lossSpan := 3 * frame }) known,
      repeatCase_eq]
    rfl
  · rw [arrive_of_paused position frame paused, Tracker.arrivePaused, if_pos known]
    rfl
  · rw [arrive_of_fresh position frame state fresh, classify_of_fresh (t := { t with lossSpan := 3 * frame }) fresh]
    rfl

end Sys2Proof.Proofs
end

section
/-! PROOFS. The Release Unit's orders: what blanking rows, blanking the rows of cues and handing leaves come to on one
auditorium, and the statement about the seek order, the hold order and the seek hand-over. -/

namespace Sys2Proof.Machine

/-! ### Dirty events -/

theorem dirtied_cons (l : Lane) (y : Chan × RowIx) (ys : List (Chan × RowIx)) :
    l.dirtied (y :: ys) = (l.dirtyEvent y.1 y.2).dirtied ys := rfl

theorem dirtied_append (l : Lane) (ys zs : List (Chan × RowIx)) :
    l.dirtied (ys ++ zs) = (l.dirtied ys).dirtied zs :=
  List.foldl_append

/-- A dirty event for the row leaves the lane as it is: the lane is OFF, or the row stands in its list (R140). -/
def Lane.Settled (l : Lane) (y : Chan × RowIx) : Prop := l.state = .off ∨ y ∈ l.dirty

theorem dirtyEvent_of_settled {l : Lane} {y : Chan × RowIx} (h : l.Settled y) : l.dirtyEvent y.1 y.2 = l :=
  if_pos h

theorem dirtyEvent_of_not_settled {l : Lane} {y : Chan × RowIx} (h : ¬l.Settled y) :
    l.dirtyEvent y.1 y.2 = { l with dirty := l.dirty ++ [y] } :=
  if_neg h

theorem settled_dirtyEvent_self (l : Lane) (y : Chan × RowIx) : (l.dirtyEvent y.1 y.2).Settled y := by
  by_cases h : l.Settled y
  · rwa [dirtyEvent_of_settled h]
  · exact .inr (by simp [dirtyEvent_of_not_settled h])

theorem settled_dirtyEvent {l : Lane} {y : Chan × RowIx} (h : l.Settled y) (z : Chan × RowIx) :
    (l.dirtyEvent z.1 z.2).Settled y := by
  by_cases hz : l.Settled z
  · rwa [dirtyEvent_of_settled hz]
  · rw [dirtyEvent_of_not_settled hz]
    exact h.imp_right (List.mem_append_left _)

theorem settled_dirtied {l : Lane} {y : Chan × RowIx} (h : l.Settled y) :
    ∀ zs : List (Chan × RowIx), (l.dirtied zs).Settled y := by
  intro zs
  induction zs generalizing l with
  | nil => exact h
  | cons z zs ih => exact ih (settled_dirtyEvent h z)

theorem settled_dirtied_of_mem {y : Chan × RowIx} :
    ∀ {ys : List (Chan × RowIx)} (l : Lane), y ∈ ys → (l.dirtied ys).Settled y
  | z :: zs, l, h => by
    rw [dirtied_cons]
    rcases List.mem_cons.mp h with rfl | h
    · exact settled_dirtied (settled_dirtyEvent_self l y) zs
    · exact settled_dirtied_of_mem _ h

/-- Events for settled rows may be left out. -/
theorem dirtied_filter (p : Chan × RowIx → Bool) :
    ∀ (ys : List (Chan × RowIx)) (l : Lane), (∀ y, p y = false → l.Settled y) →
      l.dirtied (ys.filter p) = l.dirtied ys
  | [], _, _ => rfl
  | y :: ys, l, h => by
    rw [dirtied_cons]
    cases hy : p y with
    | false =>
      rw [List.filter_cons_of_neg (by simp [hy]), dirtyEvent_of_settled (h y hy)]
      exact dirtied_filter p ys l h
    | true =>
      rw [List.filter_cons_of_pos hy, dirtied_cons]
      exact dirtied_filter p ys _ (fun z hz => settled_dirtyEvent (h z hz) y)

/-! ### Rows in ascending channel and row order -/

theorem mem_allRows (y : Chan × RowIx) : y ∈ allRows := by simp [allRows]

theorem allRows_nodup : allRows.Nodup := by decide

theorem textRows_eq (x : Auditorium) :
    x.textRows = allRows.filter (fun y => decide (x.release.channels[y.1].kind = .text)) := rfl

theorem mem_textRows {x : Auditorium} {y : Chan × RowIx} :
    y ∈ x.textRows ↔ x.release.channels[y.1].kind = .text := by
  simp [textRows_eq, mem_allRows]

theorem textRows_nodup (x : Auditorium) : x.textRows.Nodup := allRows_nodup.filter _

theorem rowsOwnedBy_eq (x : Auditorium) (ordinal : Nat) :
    x.rowsOwnedBy ordinal = allRows.filter (fun y =>
      decide (x.release.pages[y.1][y.2].owner.map RowOwner.ordinal = some ordinal)) := rfl

theorem mem_rowsOwnedBy {x : Auditorium} {ordinal : Nat} {y : Chan × RowIx} :
    y ∈ x.rowsOwnedBy ordinal ↔ x.release.pages[y.1][y.2].owner.map RowOwner.ordinal = some ordinal := by
  simp [rowsOwnedBy_eq, mem_allRows]

theorem rowsOwnedBy_nodup (x : Auditorium) (ordinal : Nat) : (x.rowsOwnedBy ordinal).Nodup :=
  allRows_nodup.filter _

/-! ### Rows blanked -/

@[simp] theorem blanked_owner (row : Row) : row.blanked.owner = none := rfl

/-- The pages with one row blanked. -/
def blankedPage (pages : Vector (Vector Row 4) 4) (y : Chan × RowIx) : Vector (Vector Row 4) 4 :=
  pages.set y.1 (pages[y.1].set y.2 pages[y.1][y.2].blanked)

theorem blankedPage_get (pages : Vector (Vector Row 4) 4) (y : Chan × RowIx) (c : Chan) (r : RowIx) :
    (blankedPage pages y)[c][r] = if (c, r) = y then pages[c][r].blanked else pages[c][r] := by
  obtain ⟨c', r'⟩ := y
  unfold blankedPage
  by_cases hc : c = c'
  · subst hc
    rw [vector_set_same]
    by_cases hr : r = r'
    · subst hr
      rw [vector_set_same, if_pos rfl]
    · rw [vector_set_other _ _ hr, if_neg (by simp [hr])]
  · rw [vector_set_other _ _ hc, if_neg (by simp [hc])]

/-- An auditorium with rows blanked one after another, and their dirty events taken (R96). -/
def Auditorium.blankRows (x : Auditorium) (rows : List (Chan × RowIx)) : Auditorium :=
  { x with
    release := { x.release with pages := rows.foldl blankedPage x.release.pages }
    lane := x.lane.dirtied rows }

theorem blankRows_cons (x : Auditorium) (y : Chan × RowIx) (ys : List (Chan × RowIx)) :
    x.blankRows (y :: ys) = (x.blankRows [y]).blankRows ys := rfl

theorem foldl_blankedPage_get {c : Chan} {r : RowIx} :
    ∀ {rows : List (Chan × RowIx)} (pages : Vector (Vector Row 4) 4), rows.Nodup →
      (rows.foldl blankedPage pages)[c][r] = if (c, r) ∈ rows then pages[c][r].blanked else pages[c][r]
  | [], _, _ => rfl
  | y :: ys, pages, h => by
    obtain ⟨fresh, rest⟩ := List.nodup_cons.mp h
    rw [List.foldl_cons, foldl_blankedPage_get _ rest, blankedPage_get]
    by_cases hy : (c, r) = y
    · simp [hy, fresh]
    · simp [hy]

/-- Rows blanked are each blanked once, and no other row changes. -/
theorem blankRows_get {rows : List (Chan × RowIx)} (x : Auditorium) (h : rows.Nodup) (c : Chan) (r : RowIx) :
    (x.blankRows rows).release.pages[c][r]
      = if (c, r) ∈ rows then x.release.pages[c][r].blanked else x.release.pages[c][r] :=
  foldl_blankedPage_get _ h

theorem textPagesBlanked_of_pages {x y : Auditorium}
    (h : y.release.pages = (x.blankRows x.textRows).release.pages) : TextPagesBlanked x y := by
  intro c r
  rw [h, blankRows_get x (textRows_nodup x)]
  exact if_congr mem_textRows rfl rfl

theorem blankRow_eq (s : State) (a : Aud) (y : Chan × RowIx) :
    s.blankRow a y.1 y.2 = s.setAud a ((s.aud a).blankRows [y]) := by
  simp only [State.blankRow, State.changeRow, State.updRelease, State.updLane, if_true, aud_setAud_same,
    setAud_twice]
  rfl

/-- Rows tested one after another, and those that meet the test blanked: where blanking a row leaves the test of the
others as it was, they are the rows that met it at the start. -/
theorem foldl_blankRow {a : Aud} (test : Auditorium → Chan × RowIx → Bool)
    (apart : ∀ x y z, z ≠ y → test (x.blankRows [y]) z = test x z) :
    ∀ (rows : List (Chan × RowIx)) (s : State), rows.Nodup →
      rows.foldl (fun s y => if test (s.aud a) y then s.blankRow a y.1 y.2 else s) s
        = s.setAud a ((s.aud a).blankRows (rows.filter (test (s.aud a))))
  | [], s, _ => (setAud_self s a).symm
  | y :: ys, s, h => by
    obtain ⟨fresh, rest⟩ := List.nodup_cons.mp h
    rw [List.foldl_cons, foldl_blankRow test apart ys _ rest]
    by_cases hy : test (s.aud a) y = true
    · have same : ys.filter (test ((s.aud a).blankRows [y])) = ys.filter (test (s.aud a)) :=
        List.filter_congr fun z hz => apart _ _ _ (ne_of_mem_of_not_mem hz fresh)
      rw [if_pos hy, blankRow_eq, aud_setAud_same, setAud_twice, same, List.filter_cons_of_pos hy,
        blankRows_cons _ y (List.filter _ ys)]
    · rw [if_neg hy, List.filter_cons_of_neg hy]

/-- R109, R111, R112: the TEXT pages blanked. -/
theorem blankTextPages_eq (s : State) (a : Aud) :
    s.blankTextPages a = s.setAud a ((s.aud a).blankRows (s.aud a).textRows) := by
  rw [textRows_eq, ← foldl_blankRow (fun x y => decide (x.release.channels[y.1].kind = .text))
    (fun _ _ _ _ => rfl) allRows s allRows_nodup]
  simp only [decide_eq_true_eq]
  rfl

/-- R106, R110: the rows a cue owns blanked. -/
theorem blankOwned_eq (s : State) (a : Aud) (ordinal : Nat) :
    s.blankOwned a ordinal = s.setAud a ((s.aud a).blankRows ((s.aud a).rowsOwnedBy ordinal)) := by
  rw [rowsOwnedBy_eq, ← foldl_blankRow (fun x y =>
      decide (x.release.pages[y.1][y.2].owner.map RowOwner.ordinal = some ordinal)) ?_ allRows s allRows_nodup]
  · unfold State.blankOwned
    congr 1
    funext t y
    simp only [State.row]
    cases (t.aud a).release.pages[y.1][y.2].owner <;> simp
  · intro x y z apart
    rw [blankRows_get x (List.nodup_singleton y), if_neg (by simpa using apart)]

/-! ### The rows of several cues blanked -/

/-- A row blanked where it has an owner among the cues. -/
def Row.withoutCues (row : Row) (ordinals : List Nat) : Row :=
  match row.owner with
  | some o => if o.ordinal ∈ ordinals then row.blanked else row
  | none => row

theorem withoutCues_nil (row : Row) : row.withoutCues [] = row := by
  unfold Row.withoutCues
  cases row.owner <;> simp

theorem withoutCues_cons (row : Row) (o : Nat) (os : List Nat) :
    row.withoutCues (o :: os)
      = (if row.owner.map RowOwner.ordinal = some o then row.blanked else row).withoutCues os := by
  cases h : row.owner with
  | none => simp [Row.withoutCues, h]
  | some w =>
    by_cases hw : w.ordinal = o <;> simp [Row.withoutCues, h, hw]

/-- An auditorium with the rows that the cues own blanked, cue by cue. -/
def Auditorium.blankCues (x : Auditorium) (ordinals : List Nat) : Auditorium :=
  { x with
    release := { x.release with pages := vmap (vmap (fun row => row.withoutCues ordinals)) x.release.pages }
    lane := x.lane.dirtied (ordinals.flatMap x.rowsOwnedBy) }

theorem blankCues_get (x : Auditorium) (ordinals : List Nat) (c : Chan) (r : RowIx) :
    (x.blankCues ordinals).release.pages[c][r] = (x.release.pages[c][r]).withoutCues ordinals := by
  simp [Auditorium.blankCues]

theorem blankCues_nil (x : Auditorium) : x.blankCues [] = x := by
  have same : vmap (vmap (fun row => row.withoutCues [])) x.release.pages = x.release.pages := by
    ext c hc r hr : 2
    simp [withoutCues_nil]
  rw [Auditorium.blankCues, same]
  rfl

/-- Once a cue's rows are blanked, a cue owns the rows it owned before, but for those. -/
theorem rowsOwnedBy_blankRows (x : Auditorium) (o p : Nat) :
    (x.blankRows (x.rowsOwnedBy o)).rowsOwnedBy p
      = (x.rowsOwnedBy p).filter (fun y => decide (y ∉ x.rowsOwnedBy o)) := by
  rw [rowsOwnedBy_eq, rowsOwnedBy_eq x p, List.filter_filter]
  refine List.filter_congr fun y _ => ?_
  rw [blankRows_get x (rowsOwnedBy_nodup x o)]
  by_cases h : y ∈ x.rowsOwnedBy o <;> simp [h]

theorem blankCues_cons_pages (x : Auditorium) (o : Nat) (os : List Nat) :
    (x.blankCues (o :: os)).release.pages = ((x.blankRows (x.rowsOwnedBy o)).blankCues os).release.pages := by
  ext c hc r hr : 2
  have row := blankCues_get x (o :: os) ⟨c, hc⟩ ⟨r, hr⟩
  have later := blankCues_get (x.blankRows (x.rowsOwnedBy o)) os ⟨c, hc⟩ ⟨r, hr⟩
  rw [blankRows_get x (rowsOwnedBy_nodup x o), if_congr mem_rowsOwnedBy rfl rfl, ← withoutCues_cons] at later
  exact row.trans later.symm

/-- The rows of the first cue are settled once they are blanked, so that the later cues may leave them out. -/
theorem blankCues_cons_lane (x : Auditorium) (o : Nat) (os : List Nat) :
    (x.blankCues (o :: os)).lane = ((x.blankRows (x.rowsOwnedBy o)).blankCues os).lane := by
  have left : os.flatMap (x.blankRows (x.rowsOwnedBy o)).rowsOwnedBy
      = (os.flatMap x.rowsOwnedBy).filter (fun y => decide (y ∉ x.rowsOwnedBy o)) := by
    rw [funext (rowsOwnedBy_blankRows x o), List.filter_flatMap]
  calc x.lane.dirtied (x.rowsOwnedBy o ++ os.flatMap x.rowsOwnedBy)
      = (x.lane.dirtied (x.rowsOwnedBy o)).dirtied (os.flatMap x.rowsOwnedBy) := dirtied_append _ _ _
    _ = (x.lane.dirtied (x.rowsOwnedBy o)).dirtied
          (os.flatMap (x.blankRows (x.rowsOwnedBy o)).rowsOwnedBy) := by
        rw [left, dirtied_filter]
        exact fun y hy => settled_dirtied_of_mem _ (by simpa using hy)

theorem blankCues_cons (x : Auditorium) (o : Nat) (os : List Nat) :
    x.blankCues (o :: os) = (x.blankRows (x.rowsOwnedBy o)).blankCues os :=
  calc x.blankCues (o :: os)
      = { x with
          release := { x.release with pages := (x.blankCues (o :: os)).release.pages }
          lane := (x.blankCues (o :: os)).lane } := rfl
    _ = (x.blankRows (x.rowsOwnedBy o)).blankCues os := by rw [blankCues_cons_pages, blankCues_cons_lane]; rfl

theorem foldl_blankOwned (a : Aud) :
    ∀ (ordinals : List Nat) (s : State),
      ordinals.foldl (fun s o => s.blankOwned a o) s = s.setAud a ((s.aud a).blankCues ordinals)
  | [], s => by rw [blankCues_nil, setAud_self]; rfl
  | o :: os, s => by
    rw [List.foldl_cons, foldl_blankOwned a os, blankOwned_eq, aud_setAud_same, setAud_twice, ← blankCues_cons]

/-! ### Leaves handed by the unit -/

/-- A leaving list with ordinals added that it does not hold yet (R91). -/
def withLeaving (leaving ordinals : List Nat) : List Nat :=
  ordinals.foldl (fun l o => if o ∈ l then l else l ++ [o]) leaving

theorem mem_withLeaving {o : Nat} :
    ∀ {ordinals leaving : List Nat}, o ∈ withLeaving leaving ordinals ↔ o ∈ leaving ∨ o ∈ ordinals
  | [], _ => by simp [withLeaving]
  | p :: ps, leaving => by
    change o ∈ withLeaving (if p ∈ leaving then leaving else leaving ++ [p]) ps ↔ _
    rw [mem_withLeaving]
    split
    · next h =>
      have : o = p → o ∈ leaving := fun e => e ▸ h
      rw [List.mem_cons]
      tauto
    · simp [or_assoc]

/-- An auditorium whose Release Unit has handed leaves for entries with their ordinals (R91, R103). -/
def Auditorium.handLeaves (x : Auditorium) (entries : List (EntryIx × Nat)) : Auditorium :=
  { x with
    window := { x.window with leaves := x.window.leaves ++ entries.map (fun y => ⟨y.1, y.2⟩) }
    release := { x.release with leaving := withLeaving x.release.leaving (entries.map Prod.snd) } }

theorem releaseLeave_eq (s : State) (a : Aud) (y : EntryIx × Nat) :
    s.releaseLeave a y.1 y.2 = s.setAud a ((s.aud a).handLeaves [y]) := by
  simp only [State.releaseLeave, handLeave_eq, State.updRelease, aud_setAud_same, setAud_twice]
  rfl

theorem handLeaves_nil (x : Auditorium) : x.handLeaves [] = x := by
  simp [Auditorium.handLeaves, withLeaving]

theorem handLeaves_cons (x : Auditorium) (y : EntryIx × Nat) (ys : List (EntryIx × Nat)) :
    x.handLeaves (y :: ys) = (x.handLeaves [y]).handLeaves ys := by
  simp [Auditorium.handLeaves, withLeaving]

theorem foldl_releaseLeave (a : Aud) :
    ∀ (entries : List (EntryIx × Nat)) (s : State),
      entries.foldl (fun s y => s.releaseLeave a y.1 y.2) s = s.setAud a ((s.aud a).handLeaves entries)
  | [], s => by rw [handLeaves_nil, setAud_self]; rfl
  | y :: ys, s => by
    rw [List.foldl_cons, foldl_releaseLeave a ys, releaseLeave_eq, aud_setAud_same, setAud_twice, ← handLeaves_cons]

/-! ### The orders taken -/

/-- An auditorium whose Release Unit has taken its oldest order and blanked the TEXT pages. -/
def Auditorium.orderTaken (x : Auditorium) (rest : List TrackerOrder) : Auditorium :=
  { x.blankRows x.textRows with release := { (x.blankRows x.textRows).release with orders := rest } }

theorem blankTextPages_orders (s : State) (a : Aud) (rest : List TrackerOrder) :
    (s.updRelease a (fun y => { y with orders := rest })).blankTextPages a
      = s.setAud a ((s.aud a).orderTaken rest) := by
  rw [blankTextPages_eq]
  simp only [State.updRelease, aud_setAud_same, setAud_twice]
  rfl

theorem exec_releaseSeekOrder {a : Aud} {s : State} {target : Nat} {gen : Gen} {rest : List TrackerOrder}
    (h : (s.aud a).release.orders = .seek target gen :: rest) :
    exec (.releaseSeekOrder a) s = .next (s.setAud a { (s.aud a).orderTaken rest with
      release := { ((s.aud a).orderTaken rest).release with takenGen := gen, releasePoint := s.position a } }) := by
  change execReleaseSeekOrder a s = _
  simp only [execReleaseSeekOrder, h, blankTextPages_orders]
  simp only [State.updRelease, State.position, aud_setAud_same, setAud_twice]
  rfl

theorem exec_releaseHoldOrder {a : Aud} {s : State} {rest : List TrackerOrder}
    (h : (s.aud a).release.orders = .hold :: rest) :
    exec (.releaseHoldOrder a) s =
      let x := ((s.aud a).orderTaken rest).handLeaves ((s.aud a).window.activeOf false)
      .next (s.setAud a { x with release := { x.release with releasePoint := s.position a } }) := by
  change execReleaseHoldOrder a s = _
  simp only [execReleaseHoldOrder, h, blankTextPages_orders, foldl_releaseLeave]
  simp only [State.updRelease, State.position, aud_setAud_same, setAud_twice]
  rfl

theorem exec_releaseSeekHandOver {a : Aud} {s : State} {h : HandOver} {rest : List HandOver}
    (oldest : (s.aud a).release.handOvers = h :: rest) :
    exec (.releaseSeekHandOver a) s =
      let x := (s.aud a).blankCues h.ordinals
      .next (s.setAud a { x with
        release := { x.release with handOvers := rest, leaving := [], windowGen := h.gen } }) := by
  change execReleaseSeekHandOver a s = _
  simp only [execReleaseSeekHandOver, oldest, foldl_blankOwned]
  simp only [State.updRelease, aud_setAud_same, setAud_twice]
  rfl

end Sys2Proof.Machine

namespace Sys2Proof.Proofs

open Sys2Proof.Machine

/-- Settles O28: each order and the hand-over is one equation on the auditorium; what it says of the pages and of the
leaving list are the lemmas on rows blanked and on leaves, and its other fields are read off. -/
theorem releaseOrdersTaken : Obligations.ReleaseOrdersTaken := by
  intro a s
  dsimp only
  refine ⟨fun target gen rest oldest => ⟨_, exec_releaseSeekOrder oldest, ?_⟩,
    fun rest oldest => ⟨_, exec_releaseHoldOrder oldest, ?_⟩,
    fun h rest oldest => ⟨_, exec_releaseSeekHandOver oldest, ?_⟩⟩
  · simp only [aud_setAud_same, Auditorium.orderTaken, Auditorium.blankRows, and_true]
    exact textPagesBlanked_of_pages rfl
  · simp only [aud_setAud_same, Auditorium.handLeaves, Auditorium.orderTaken, Auditorium.blankRows, and_true,
      true_and]
    exact ⟨textPagesBlanked_of_pages rfl, fun _ => mem_withLeaving⟩
  · simp only [aud_setAud_same, Auditorium.blankCues, and_true]
    exact blankCues_get _ _

end Sys2Proof.Proofs
end

section
/-! PROOFS. The streamer's orders: what stopping cues does to a stream context and to the four of an auditorium, what
handing leaves comes to, and the statement about the seek order, the hold order and the seek hand-over. -/

namespace Sys2Proof.Machine

/-! ### A stream context replaced -/

/-- An update of the streamer that sets other fields leaves every stream context. -/
theorem updStreamer_stream (s : State) (a : Aud) (c : Chan) {f : Streamer → Streamer}
    (same : (f (s.aud a).streamer).streams = (s.aud a).streamer.streams) :
    (s.updStreamer a f).stream a c = s.stream a c := by
  simp [State.stream, same]

@[simp] theorem setStream_aud_window (s : State) (a : Aud) (c : Chan) (x : Stream) :
    ((s.setStream a c x).aud a).window = (s.aud a).window :=
  updStreamer_aud_window s a _

@[simp] theorem setStream_stream_same (s : State) (a : Aud) (c : Chan) (x : Stream) :
    (s.setStream a c x).stream a c = x := by
  simp [State.setStream, State.stream]

theorem setStream_stream_other (s : State) (a : Aud) {c d : Chan} (x : Stream) (h : d ≠ c) :
    (s.setStream a c x).stream a d = s.stream a d := by
  simpa only [State.setStream, State.stream, updStreamer_aud_streamer] using vector_set_other _ x h

/-- Contexts of different channels replaced one after another: each from what it was at first, as the window stands. -/
theorem foldl_setStream_stream (a : Aud) (f : Window → Stream → Stream) (c : Chan) :
    ∀ (cs : List Chan) (s : State), cs.Nodup →
      (cs.foldl (fun s d => s.setStream a d (f (s.aud a).window (s.stream a d))) s).stream a c
        = if c ∈ cs then f (s.aud a).window (s.stream a c) else s.stream a c
  | [], _, _ => rfl
  | d :: ds, s, nodup => by
    obtain ⟨fresh, nodup⟩ := List.nodup_cons.mp nodup
    rw [List.foldl_cons, foldl_setStream_stream a f c ds _ nodup, setStream_aud_window]
    by_cases h : c = d
    · subst h
      rw [if_neg fresh, setStream_stream_same, if_pos List.mem_cons_self]
    · simp only [setStream_stream_other s a _ h, List.mem_cons, h, false_or]

/-! ### Cues stopped -/

/-- Carriages leave the cue list whether the fetch passes on or not (R119). -/
@[simp] theorem removeCarriages_cues (x : Stream) (w : Window) (gone : Carriage → Bool) :
    (x.removeCarriages w gone).cues = x.cues.filter (fun y => !gone y) := by
  unfold Stream.removeCarriages Stream.passFetch
  dsimp only
  repeat' split
  all_goals rfl

@[simp] theorem removeCarriages_queue (x : Stream) (w : Window) (gone : Carriage → Bool) :
    (x.removeCarriages w gone).queue = x.queue := by
  unfold Stream.removeCarriages Stream.passFetch
  dsimp only
  repeat' split
  all_goals rfl

theorem stopOrdinal_stream (s : State) (a : Aud) (ordinal : Nat) (c : Chan) :
    (s.stopOrdinal a ordinal).stream a c = ((s.stream a c).removePackets ordinal).removeCarriages (s.aud a).window
      (fun y => decide (y.ordinal = ordinal)) := by
  have h := foldl_setStream_stream a
    (fun w x => (x.removePackets ordinal).removeCarriages w (fun y => decide (y.ordinal = ordinal))) c
    (List.finRange 4) s (List.nodup_finRange 4)
  rwa [if_pos (List.mem_finRange c)] at h

/-- One cue stopped: its carriages and its packets are gone, and no others (R127). -/
theorem stopOrdinal_stream_lists (s : State) (a : Aud) (ordinal : Nat) (c : Chan) :
    ((s.stopOrdinal a ordinal).stream a c).cues
        = (s.stream a c).cues.filter (fun y => decide (y.ordinal ≠ ordinal))
      ∧ ((s.stopOrdinal a ordinal).stream a c).queue
        = (s.stream a c).queue.filter (fun p => decide (p.ordinal ≠ ordinal)) := by
  simp [stopOrdinal_stream, Stream.removePackets]

/-- The cues of a list stopped one after another (R67, R127). -/
def State.stopOrdinals (s : State) (a : Aud) (ordinals : List Nat) : State :=
  ordinals.foldl (fun s o => s.stopOrdinal a o) s

/-- Members named by an ordinal of a list are gone when those of its head go first and those of its tail then. -/
theorem filter_notMem_cons {α : Type} (key : α → Nat) (o : Nat) (os : List Nat) (xs : List α) :
    (xs.filter (fun x => decide (key x ≠ o))).filter (fun x => decide (key x ∉ os))
      = xs.filter (fun x => decide (key x ∉ o :: os)) := by
  simp [List.filter_filter, Bool.and_comm]

/-- Cues stopped: no carriage and no packet of a listed cue is left, and every other stands (R127). -/
theorem stopOrdinals_stream_lists (a : Aud) (c : Chan) : ∀ (ordinals : List Nat) (s : State),
    ((s.stopOrdinals a ordinals).stream a c).cues
        = (s.stream a c).cues.filter (fun y => decide (y.ordinal ∉ ordinals))
      ∧ ((s.stopOrdinals a ordinals).stream a c).queue
        = (s.stream a c).queue.filter (fun p => decide (p.ordinal ∉ ordinals))
  | [], _ => by simp [State.stopOrdinals]
  | o :: os, s => by
    obtain ⟨cues, queue⟩ := stopOrdinal_stream_lists s a o c
    have later := stopOrdinals_stream_lists a c os (s.stopOrdinal a o)
    rwa [cues, queue, filter_notMem_cons, filter_notMem_cons] at later

/-- Cues stopped: their auditorium's stream contexts and buffer count change, and nothing else (R67, R127). -/
theorem stopOrdinals_frame (a : Aud) : ∀ (ordinals : List Nat) (s : State), ∃ streams count,
    s.stopOrdinals a ordinals = s.setAud a { s.aud a with
      streamer := { (s.aud a).streamer with streams := streams, bufferCount := count } }
  | [], s => ⟨_, _, (setAud_self s a).symm⟩
  | o :: os, s => by
    obtain ⟨streams, count, later⟩ := stopOrdinals_frame a os (s.stopOrdinal a o)
    refine ⟨streams, count, later.trans ?_⟩
    rw [stopOrdinal_frame]
    simp

/-! ### Leaves handed by the streamer -/

theorem foldl_handLeave (a : Aud) : ∀ (entries : List (EntryIx × Nat)) (s : State),
    entries.foldl (fun s y => s.handLeave a y.1 y.2) s = s.setAud a { s.aud a with
      window := { (s.aud a).window with
        leaves := (s.aud a).window.leaves ++ entries.map (fun y => ⟨y.1, y.2⟩) } }
  | [], s => by
    rw [List.map_nil, List.append_nil]
    exact (setAud_self s a).symm
  | y :: ys, s => by
    rw [List.foldl_cons, foldl_handLeave a ys, handLeave_eq]
    simp

/-! ### The streamer's orders taken -/

theorem exec_streamSeekOrder {a : Aud} {s : State} {target : Nat} {gen : Gen} {rest : List TrackerOrder}
    (oldest : (s.aud a).streamer.orders = .seek target gen :: rest) :
    exec (.streamSeekOrder a) s = .next (s.updStreamer a (fun u =>
      { u.flush with orders := rest, offers := [], takenGen := gen })) := by
  change execStreamSeekOrder a s = _
  simp only [execStreamSeekOrder, oldest]

theorem exec_streamHoldOrder {a : Aud} {s : State} {rest : List TrackerOrder}
    (oldest : (s.aud a).streamer.orders = .hold :: rest) :
    exec (.streamHoldOrder a) s = .next (s.setAud a { s.aud a with
      streamer := { (s.aud a).streamer.flush with orders := rest }
      window := { (s.aud a).window with leaves := (s.aud a).window.leaves
        ++ ((s.aud a).window.activeOf true).map (fun y => ⟨y.1, y.2⟩) } }) := by
  change execStreamHoldOrder a s = _
  simp only [execStreamHoldOrder, oldest, foldl_handLeave]
  simp only [State.updStreamer, aud_setAud_same, setAud_twice]

theorem exec_streamSeekHandOver {a : Aud} {s : State} {h : HandOver} {rest : List HandOver}
    (oldest : (s.aud a).streamer.handOvers = h :: rest) :
    exec (.streamSeekHandOver a) s =
      .next (((s.updStreamer a (fun u => { u with handOvers := rest })).stopOrdinals a h.ordinals).updStreamer a
        (fun u => { u with windowGen := h.gen })) := by
  change execStreamSeekHandOver a s = _
  simp only [execStreamSeekHandOver, oldest]
  rfl

end Sys2Proof.Machine

namespace Sys2Proof.Proofs

open Sys2Proof.Machine

/-- Settles O32: each order is one equation on the auditorium. The hand-over is a list of cues stopped between two
updates of the streamer that touch no stream context, so that its frame and its lists are those of the cues stopped. -/
theorem streamOrdersTaken : Obligations.StreamOrdersTaken := by
  intro a s
  dsimp only
  refine ⟨fun target gen rest oldest => exec_streamSeekOrder oldest, fun rest oldest => exec_streamHoldOrder oldest,
    fun h rest oldest => ⟨_, exec_streamSeekHandOver oldest, ?_, fun c => ?_⟩⟩
  · obtain ⟨streams, count, stopped⟩ :=
      stopOrdinals_frame a h.ordinals (s.updStreamer a (fun u => { u with handOvers := rest }))
    rw [stopped]
    simp [State.updStreamer]
  · rw [updStreamer_stream _ a c rfl, ← updStreamer_stream s a c (f := fun u => { u with handOvers := rest }) rfl]
    exact stopOrdinals_stream_lists a c h.ordinals _

end Sys2Proof.Proofs
end

section
/-! PROOFS. The lane's sweep and its uplink intake: a message's device, kind and judging, a sweep's count and report,
and the statement about both. -/

namespace Sys2Proof.Machine

/-! ### An uplink message read -/

/-- The device id is the four bytes of its field, least significant first (R190). -/
theorem uplinkDevice_toNat (m : Vector Byte 8) : (uplinkDevice m).toNat
    = m[0].toNat + 256 * m[1].toNat + 65536 * m[2].toNat + 16777216 * m[3].toNat := by
  have append {n : Nat} (x : BitVec n) (b : Byte) : (x ++ b).toNat = x.toNat * 256 + b.toNat := by
    rw [BitVec.toNat_append, ← Nat.shiftLeft_add_eq_or_of_lt b.isLt, Nat.shiftLeft_eq]
  simp only [uplinkDevice, append]
  omega

/-- The kinds are the codes 1 to 4, in the order of the list (R190). -/
theorem uplinkKind_eq (code : Byte) : uplinkKind code =
    if code = 0 ∨ 4 < code.toNat then none
    else [UplinkKind.join, .alive, .repeatRows, .leave][code.toNat - 1]? := by
  revert code
  decide

/-- What makes a message bad: its check, its device id or its kind (R147). -/
def UplinkBad (m : Vector Byte 8) : Prop :=
  m[7] ≠ checkSum m ∨ uplinkDevice m = 0 ∨ uplinkDevice m = 0xFFFFFFFF#32 ∨ m[4] = 0 ∨ 4 < m[4].toNat

/-- The tests of the device id, on its number. -/
theorem uplinkBad_iff {m : Vector Byte 8} {id : Nat} (device : (uplinkDevice m).toNat = id) :
    UplinkBad m ↔ m[7] ≠ m[0] + m[1] + m[2] + m[3] + m[4] + m[5] + m[6] ∨ id = 0 ∨ id = 0xFFFFFFFF
      ∨ m[4] = 0 ∨ 4 < m[4].toNat := by
  subst device
  simp only [UplinkBad, BitVec.toNat_eq, checkSum]
  exact Iff.rfl

theorem readUplink_of_bad {m : Vector Byte 8} (bad : UplinkBad m) : readUplink m = none := by
  unfold readUplink
  split
  · next h =>
    obtain ⟨check, zero, ones⟩ := h
    rcases bad with bad | bad | bad | bad
    · exact absurd check bad
    · exact absurd bad zero
    · exact absurd bad ones
    · rw [uplinkKind_eq, if_pos bad, Option.map_none]
  · rfl

/-- A message that is not bad is read into its device, the kind of its code and its channel argument (R147, R190). -/
theorem readUplink_of_good {m : Vector Byte 8} (good : ¬UplinkBad m) : ∃ kind,
    some kind = [UplinkKind.join, .alive, .repeatRows, .leave][m[4].toNat - 1]?
      ∧ readUplink m = some ⟨uplinkDevice m, kind, m[5]⟩ := by
  simp only [UplinkBad, not_or, not_not, not_lt] at good
  obtain ⟨check, zero, ones, positive, small⟩ := good
  have known : m[4].toNat - 1 < [UplinkKind.join, .alive, .repeatRows, .leave].length := by
    change _ < 4
    omega
  have kind := uplinkKind_eq m[4]
  rw [if_neg (not_or.mpr ⟨positive, not_lt.mpr small⟩), List.getElem?_eq_getElem known] at kind
  exact ⟨_, (List.getElem?_eq_getElem known).symm, by
    rw [readUplink, if_pos ⟨check, zero, ones⟩, kind]
    rfl⟩

/-! ### An arrival judged -/

theorem exec_uplinkArrival_off {a : Aud} {s : State} (m : Vector Byte 8) (off : (s.aud a).lane.state = .off) :
    exec (.uplinkArrival a m) s = .next s :=
  if_pos off

/-- A lane that acts discards and counts a bad message (R147). -/
theorem exec_uplinkArrival_bad {a : Aud} {s : State} {m : Vector Byte 8} (acts : (s.aud a).lane.state ≠ .off)
    (bad : UplinkBad m) : exec (.uplinkArrival a m) s = .next (s.bump a .uplinkDiscarded 1) := by
  change execUplinkArrival a m s = _
  simp [execUplinkArrival, acts, readUplink_of_bad bad]

/-- A lane that acts takes a good message into its intake, or discards, counts and flags it where eight stand there
(R147, R149). -/
theorem exec_uplinkArrival_good {a : Aud} {s : State} {m : Vector Byte 8} {u : UplinkMessage}
    (acts : (s.aud a).lane.state ≠ .off) (read : readUplink m = some u) :
    exec (.uplinkArrival a m) s = .next (
      if 8 ≤ (s.aud a).lane.intake.length then
        (s.bump a .uplinkDiscarded 1).updLane a (fun l => { l with overflow := true })
      else s.updLane a (fun l => { l with intake := l.intake ++ [u] })) := by
  change execUplinkArrival a m s = _
  simp only [execUplinkArrival, acts, read, if_false]
  split <;> rfl

/-! ### The sweep -/

theorem totalAudience_eq (s : State) (a : Aud) :
    s.totalAudience a = s.audience a 0 + s.audience a 1 + s.audience a 2 + s.audience a 3 := by
  simp [State.totalAudience, List.finRange_succ, Nat.add_assoc]

/-- A sweep of a lane in FULL counts towards SPARSE while there is no audience, and any other counts nothing (R135). -/
theorem countEmpty_eq (l : Lane) (audience : Nat) : l.countEmpty audience =
    if l.state = .full then
      if audience = 0 then
        if 30 ≤ l.zeroAudience + 1 then { l with state := .sparse, zeroAudience := 0 }
        else { l with zeroAudience := l.zeroAudience + 1 }
      else { l with zeroAudience := 0 }
    else l := by
  unfold Lane.countEmpty
  cases l.state <;> rfl

@[simp] theorem countEmpty_overflow (l : Lane) (audience : Nat) : (l.countEmpty audience).overflow = l.overflow := by
  rw [countEmpty_eq]
  split_ifs <;> rfl

theorem exec_laneSweep_off {a : Aud} {s : State} (off : (s.aud a).lane.state = .off) :
    exec (.laneSweep a) s = .next s :=
  if_pos off

/-- A lane that acts counts, and reports a set overflow flag (R135, R149). -/
theorem exec_laneSweep {a : Aud} {s : State} (acts : (s.aud a).lane.state ≠ .off) :
    exec (.laneSweep a) s
      = .next ((s.updLane a (fun l => l.countEmpty (s.totalAudience a))).reportOverflow a) :=
  if_neg acts

theorem reportOverflow_of_clear {s : State} {a : Aud} (clear : (s.aud a).lane.overflow = false) :
    s.reportOverflow a = s := by
  simp [State.reportOverflow, clear]

theorem reportOverflow_of_set {s : State} {a : Aud} (flagged : (s.aud a).lane.overflow = true) :
    s.reportOverflow a = (s.updLane a (fun l => { l with overflow := false })).report (Party.slot a) .minor
      .uplinkOverflow none none := by
  simp [State.reportOverflow, flagged]

end Sys2Proof.Machine

namespace Sys2Proof.Proofs

open Sys2Proof.Machine

/-- Settles O41: a lane in OFF, then the sweep by its overflow flag, then the arrival by what is read of the message
and by the room in the intake. -/
theorem sweepAndIntake : Obligations.SweepAndIntake := by
  intro a s
  dsimp only
  refine ⟨fun off => ⟨exec_laneSweep_off off, fun m => exec_uplinkArrival_off m off⟩,
    fun acts => ⟨_, rfl, fun clear => ?_, fun flagged => ?_⟩, fun m acts => ?_⟩
  · rw [exec_laneSweep acts, reportOverflow_of_clear (by simpa using clear), totalAudience_eq, ← countEmpty_eq]
    rfl
  · rw [exec_laneSweep acts, reportOverflow_of_set (by simpa using flagged), totalAudience_eq, ← countEmpty_eq]
    simp [State.updLane]
  · rw [← uplinkBad_iff (uplinkDevice_toNat m)]
    refine ⟨fun bad => exec_uplinkArrival_bad acts bad, fun good many => ?_, fun good few => ?_⟩
    all_goals obtain ⟨kind, code, read⟩ := readUplink_of_good good
    · rw [exec_uplinkArrival_good acts read, if_pos many]
      simp [State.bump, State.updLane, Counter.index]
    · rw [exec_uplinkArrival_good acts read, if_neg (by omega)]
      exact ⟨_, uplinkDevice_toNat m, rfl, code, rfl⟩

end Sys2Proof.Proofs
end

section
/-! PROOFS. The lane's frame event: what the streamer's part of a composition and what the arbiter leave, the replies of
a SPARSE frame, the beacon, and the statement about what is sent and composed. -/

namespace Sys2Proof.Machine

/-! ### What a frame event leaves -/

/-- What the parts of a frame event leave: the registers, the pool, the devices, the commands waiting and every other
auditorium; of the lane's own auditorium the tracker, the state and the release context, and of the lane what `view`
shows. -/
structure FrameLeaves {β : Type} (a : Aud) (view : Lane → β) (s t : State) : Prop where
  tracker : (t.aud a).tracker = (s.aud a).tracker
  state : (t.aud a).state = (s.aud a).state
  release : (t.aud a).release = (s.aud a).release
  lane : view (t.aud a).lane = view (s.aud a).lane
  others : ∀ b, b ≠ a → t.aud b = s.aud b
  regs : t.regs = s.regs
  pool : t.pool = s.pool
  devices : t.devices = s.devices
  pending : t.pending = s.pending

namespace FrameLeaves

variable {β : Type} {a : Aud} {view : Lane → β} {s t u : State}

theorem refl (s : State) : FrameLeaves a view s s := ⟨rfl, rfl, rfl, rfl, fun _ _ => rfl, rfl, rfl, rfl, rfl⟩

theorem trans (h : FrameLeaves a view s t) (k : FrameLeaves a view t u) : FrameLeaves a view s u :=
  ⟨k.tracker.trans h.tracker, k.state.trans h.state, k.release.trans h.release, k.lane.trans h.lane,
    fun b other => (k.others b other).trans (h.others b other), k.regs.trans h.regs, k.pool.trans h.pool,
    k.devices.trans h.devices, k.pending.trans h.pending⟩

theorem foldl {α : Type} {f : State → α → State} (h : ∀ s x, FrameLeaves a view s (f s x)) (xs : List α)
    (s : State) : FrameLeaves a view s (xs.foldl f s) :=
  foldl_keeps _ refl trans f h xs s

/-- What leaves the whole lane leaves whatever is shown of it. -/
theorem viewed (h : FrameLeaves a id s t) : FrameLeaves a view s t :=
  { h with lane := congrArg view h.lane }

/-- The auditorium's contexts replaced by ones that agree with them where a frame event leaves them. -/
theorem setAud {x : Auditorium} (tracker : x.tracker = (s.aud a).tracker) (state : x.state = (s.aud a).state)
    (release : x.release = (s.aud a).release) (lane : view x.lane = view (s.aud a).lane) :
    FrameLeaves a view s (s.setAud a x) where
  tracker := by rw [aud_setAud_same, tracker]
  state := by rw [aud_setAud_same, state]
  release := by rw [aud_setAud_same, release]
  lane := by rw [aud_setAud_same, lane]
  others _ other := aud_setAud_other s x other
  regs := rfl
  pool := rfl
  devices := rfl
  pending := rfl

theorem updLane {f : Lane → Lane} (lane : view (f (s.aud a).lane) = view (s.aud a).lane) :
    FrameLeaves a view s (s.updLane a f) :=
  setAud rfl rfl rfl lane

theorem report (s : State) (p : Party) (v : Severity) (k : IncidentCode) (address : Option HostAddr)
    (ordinal : Option Nat) : FrameLeaves a view s (s.report p v k address ordinal) := by
  constructor <;> simp

/-- The rows that are sent are read off what a frame event leaves (R137). -/
theorem rowsHeard (h : FrameLeaves a view s t) (c : Chan) : t.rowsHeard a c = s.rowsHeard a c := by
  unfold State.rowsHeard State.channelKind State.audience
  rw [h.release, h.devices]

/-- So are the row versions of a reply (R144). -/
theorem replyVersions (h : FrameLeaves a view s t) (r : Reply) : t.replyVersions a r = s.replyVersions a r := by
  simp only [State.replyVersions, State.row, h.release]

end FrameLeaves

/-! ### The streamer at a composition -/

theorem setStream_leaves (s : State) (a : Aud) (c : Chan) (x : Stream) : FrameLeaves a id s (s.setStream a c x) :=
  .setAud rfl rfl rfl rfl

theorem bump_leaves (s : State) (a : Aud) (k : Counter) (n : Nat) : FrameLeaves a id s (s.bump a k n) :=
  .setAud rfl rfl rfl rfl

theorem leaveIfUncarried_leaves (s : State) (a : Aud) (e : EntryIx) (ordinal : Nat) :
    FrameLeaves a id s (s.leaveIfUncarried a e ordinal) := by
  unfold State.leaveIfUncarried
  split
  · exact .refl s
  · exact .setAud rfl rfl rfl rfl

theorem completeCarriage_leaves (s : State) (a : Aud) (c : Chan) (y : Carriage) :
    FrameLeaves a id s (s.completeCarriage a c y) :=
  ((setStream_leaves s a c _).trans (bump_leaves _ a _ _)).trans (leaveIfUncarried_leaves _ a _ _)

theorem settleStream_leaves (a : Aud) (c : Chan) : ∀ (fuel : Nat) (s : State),
    FrameLeaves a id s (s.settleStream a c fuel)
  | 0, s => .refl s
  | fuel + 1, s => by
    unfold State.settleStream
    dsimp only
    split
    · exact (completeCarriage_leaves s a c _).trans (settleStream_leaves a c fuel _)
    · split
      · split
        · exact (setStream_leaves s a c _).trans (settleStream_leaves a c fuel _)
        · exact .refl s
      · exact .refl s

theorem reportAudioLate_leaves (s : State) (a : Aud) (c : Chan) (y : Carriage) :
    FrameLeaves a id s (s.reportAudioLate a c y) := by
  unfold State.reportAudioLate
  split
  · exact .refl s
  · exact (setStream_leaves s a c _).trans (.report _ _ _ _ _ _)

theorem dropLate_leaves (s : State) (a : Aud) (c : Chan) (gone : PacketEntry → Bool) (lowest bound : Nat) :
    FrameLeaves a id s (s.dropLate a c gone lowest bound) :=
  (((setStream_leaves s a c _).trans (bump_leaves _ a _ _)).trans
    (.foldl (fun s y => reportAudioLate_leaves s a c y) _ _)).trans (settleStream_leaves a c _ _)

theorem unheardSweep_leaves (s : State) (a : Aud) (c : Chan) (v : Nat) :
    FrameLeaves a id s (s.unheardSweep a c v) :=
  ((setStream_leaves s a c _).trans (bump_leaves _ a _ _)).trans (settleStream_leaves a c _ _)

/-- The streamer's drops and sweeps at a composition leave the lane (R123, R126). -/
theorem composeStreams_leaves (s : State) (a : Aud) (b : Nat) (shown : ShowState) :
    FrameLeaves a id s (s.composeStreams a b shown) := by
  unfold State.composeStreams
  split
  · refine .foldl (fun s c => ?_) _ s
    split
    · split
      · exact dropLate_leaves s a c _ _ _
      · exact unheardSweep_leaves s a c b
    · exact .refl s
  · exact .refl s

/-- A packet placed leaves the lane (R123). -/
theorem packetSent_leaves (s : State) (a : Aud) (c : Chan) (p : PacketEntry) :
    FrameLeaves a id s (s.packetSent a c p) :=
  ((setStream_leaves s a c _).trans (bump_leaves _ a _ _)).trans (settleStream_leaves a c _ _)

/-! ### The arbiter's levels -/

/-- What is sent of a lane and counted: the frame on the air and the frame number. -/
def Lane.onAirView (l : Lane) : Option (List FrameSlot) × BitVec 16 := (l.onAir, l.frameNumber)

/-- What a level of the arbiter does to a frame being composed: the machine keeps what a frame event leaves with the
frame on the air and the frame number, and no more than seven frame slots are filled. -/
structure Composer.Fills (a : Aud) (k k' : Composer) : Prop where
  leaves : FrameLeaves a Lane.onAirView k.state k'.state
  slots : k.slots.length ≤ 7 → k'.slots.length ≤ 7

namespace Composer.Fills

variable {a : Aud} {k k' k'' : Composer}

theorem refl (k : Composer) : Fills a k k := ⟨.refl _, id⟩

theorem trans (h : Fills a k k') (h' : Fills a k' k'') : Fills a k k'' :=
  ⟨h.leaves.trans h'.leaves, h'.slots ∘ h.slots⟩

theorem foldl {α : Type} {f : Composer → α → Composer} (h : ∀ k x, Fills a k (f k x)) (xs : List α)
    (k : Composer) : Fills a k (xs.foldl f k) :=
  foldl_keeps _ refl trans f h xs k

theorem sevenTimes {f : Composer → Composer} (h : ∀ k, Fills a k (f k)) (k : Composer) :
    Fills a k (sevenTimes f k) :=
  foldl (fun k _ => h k) _ k

theorem updLane {f : Lane → Lane} (lane : (f (k.state.aud a).lane).onAirView = (k.state.aud a).lane.onAirView) :
    Fills a k ⟨k.state.updLane a f, k.slots⟩ :=
  ⟨.updLane lane, id⟩

/-- A frame slot is filled while one is free. -/
theorem one (free : k.free = true) {s : State} (leaves : FrameLeaves a Lane.onAirView k.state s) (f : FrameSlot) :
    Fills a k ⟨s, k.slots ++ [f]⟩ := by
  refine ⟨leaves, fun _ => ?_⟩
  have room : k.slots.length < 7 := of_decide_eq_true free
  rw [List.length_append, List.length_singleton]
  omega

end Composer.Fills

theorem placeRow_fills (k : Composer) (a : Aud) (c : Chan) (r : RowIx) : k.Fills a (k.placeRow a c r) := by
  unfold Composer.placeRow
  split
  · next free => exact .one free (.updLane rfl) _
  · exact .refl k

theorem placePacket_fills (k : Composer) (a : Aud) (c : Chan) (p : PacketEntry) : k.Fills a (k.placePacket a c p) := by
  unfold Composer.placePacket
  split
  · next free => exact .one free (packetSent_leaves _ a c p).viewed _
  · exact .refl k

theorem placeReply_fills (k : Composer) (a : Aud) : k.Fills a (k.placeReply a) := by
  unfold Composer.placeReply
  split
  · next free =>
    split
    · exact .refl k
    · exact .one free (.updLane rfl) _
  · exact .refl k

theorem placeRefresh_fills (k : Composer) (a : Aud) : k.Fills a (k.placeRefresh a) := by
  unfold Composer.placeRefresh
  split
  · split
    · exact .refl k
    · exact (placeRow_fills k a _ _).trans (.updLane rfl)
  · exact .refl k

theorem placeDirty_fills (k : Composer) (a : Aud) : k.Fills a (k.placeDirty a) :=
  .foldl (fun k _ => placeRow_fills k a _ _) _ k

theorem placeForced_fills (k : Composer) (a : Aud) : k.Fills a (k.placeForced a) :=
  .foldl (fun k _ => placeRow_fills k a _ _) _ k

theorem composeAudio_fills (s : State) (a : Aud) (b : Nat) (shown : ShowState) (full : Bool) :
    Composer.Fills a ⟨s, []⟩ (s.composeAudio a b shown full) := by
  have drops : Composer.Fills a ⟨s, []⟩ ⟨s.composeStreams a b shown, []⟩ :=
    ⟨(composeStreams_leaves s a b shown).viewed, id⟩
  unfold State.composeAudio
  split
  · exact drops.trans (.foldl (fun k _ => placePacket_fills k a _ _) _ _)
  · exact drops

/-! ### The replies of a frame -/

/-- A composer that has moved up to `n` replies from the front of the reply queue into its frame slots (R144). -/
def Composer.replied (k : Composer) (a : Aud) (n : Nat) : Composer :=
  ⟨k.state.updLane a (fun l => { l with replies := l.replies.drop n }),
    k.slots ++ ((k.state.aud a).lane.replies.take n).map (fun r => .reply r (k.state.replyVersions a r))⟩

/-- Where there is no reply to move, nothing changes. -/
theorem replied_of_none {k : Composer} {a : Aud} {n : Nat} (h : (k.state.aud a).lane.replies = [] ∨ n = 0) :
    k.replied a n = k := by
  have none : (k.state.aud a).lane.replies.take n = [] := List.take_eq_nil_iff.mpr h.symm
  have all : (k.state.aud a).lane.replies.drop n = (k.state.aud a).lane.replies := by
    rcases h with h | rfl <;> simp [*]
  rw [Composer.replied, State.updLane, all, none, List.map_nil, List.append_nil]
  exact congrArg (Composer.mk · k.slots) (setAud_self k.state a)

theorem replied_add (k : Composer) (a : Aud) (m n : Nat) : (k.replied a m).replied a n = k.replied a (m + n) := by
  have versions (r : Reply) : (k.replied a m).state.replyVersions a r = k.state.replyVersions a r :=
    FrameLeaves.replyVersions (view := Lane.onAirView) (.updLane rfl) r
  rw [Composer.replied]
  simp only [versions]
  simp [Composer.replied, State.updLane, List.take_add]

theorem placeReply_of_free {k : Composer} (a : Aud) (free : k.slots.length < 7) :
    k.placeReply a = k.replied a 1 := by
  rw [Composer.placeReply, if_pos (show k.free = true from decide_eq_true free)]
  cases queued : (k.state.aud a).lane.replies with
  | nil => exact (replied_of_none (.inl queued)).symm
  | cons r rest => simp [Composer.replied, State.updLane, queued]

theorem foldl_placeReply (a : Aud) : ∀ (xs : List Nat) (k : Composer), k.slots.length + xs.length ≤ 7 →
    xs.foldl (fun k _ => k.placeReply a) k = k.replied a xs.length
  | [], k, _ => (replied_of_none (.inr rfl)).symm
  | x :: xs, k, room => by
    rw [List.length_cons] at room
    have one : (k.replied a 1).slots.length ≤ k.slots.length + 1 := by simp [Composer.replied]
    rw [List.foldl_cons, placeReply_of_free a (by omega), foldl_placeReply a xs _ (by omega), replied_add,
      List.length_cons, Nat.add_comm]

/-- Seven steps on an empty frame move up to seven replies (R144, R146). -/
theorem sevenTimes_placeReply (s : State) (a : Aud) :
    sevenTimes (fun k => k.placeReply a) ⟨s, []⟩ = Composer.replied ⟨s, []⟩ a 7 :=
  foldl_placeReply a (List.range 7) ⟨s, []⟩ (by simp)

/-! ### A frame composed -/

/-- A lane with the rows of channels that are not heard off its dirty list and out of its forced-repeat sets (R137). -/
def Lane.pruned (l : Lane) (heard : Chan → Bool) : Lane :=
  { l with
    dirty := l.dirty.filter (fun y => heard y.1)
    forced := vofFn (fun c => if heard c then l.forced[c] else Vector.replicate 4 false) }

theorem pruned_forced (l : Lane) (heard : Chan → Bool) (c : Chan) (r : RowIx) :
    (l.pruned heard).forced[c][r] = (l.forced[c][r] && heard c) := by
  cases h : heard c <;> simp [Lane.pruned, h]

theorem pruneLane_eq (s : State) (a : Aud) : s.pruneLane a = s.updLane a (·.pruned (s.rowsHeard a)) := rfl

/-- The frame slots 1..7, with EMPTY ones behind what stands in them (R137). -/
def Composer.filled (k : Composer) : List FrameSlot := k.slots ++ List.replicate (7 - k.slots.length) .empty

theorem filled_length {k : Composer} (few : k.slots.length ≤ 7) : k.filled.length = 7 := by
  simp [Composer.filled, few]

/-- What the arbiter has composed when the frame is complete: the levels in their order, those of rows in FULL alone
(R137). -/
def State.composer (s : State) (a : Aud) : Composer :=
  let full := decide ((s.aud a).lane.state = .full)
  let k := (s.pruneLane a).composeAudio a (s.beacon a).position (s.beacon a).showState full
  let k := if full then k.placeDirty a else k
  let k := sevenTimes (fun k => k.placeReply a) k
  if full then sevenTimes (fun k => k.placeRefresh a) (k.placeForced a) else k

theorem pruneLane_leaves (s : State) (a : Aud) : FrameLeaves a Lane.onAirView s (s.pruneLane a) := .updLane rfl

/-- The beacon reads nothing that pruning changes (R138). -/
theorem pruneLane_beacon (s : State) (a : Aud) : (s.pruneLane a).beacon a = s.beacon a := by
  simp [State.beacon, pruneLane_eq, Lane.pruned, State.stream]

theorem composeFrame_eq (s : State) (a : Aud) :
    s.composeFrame a = ((s.composer a).state, .beacon (s.beacon a) :: (s.composer a).filled) := by
  unfold State.composeFrame
  dsimp only
  rw [pruneLane_beacon]
  rfl

theorem composer_fills (s : State) (a : Aud) : Composer.Fills a ⟨s, []⟩ (s.composer a) := by
  have pruned : Composer.Fills a ⟨s, []⟩ ⟨s.pruneLane a, []⟩ := .updLane rfl
  have replies (k : Composer) : k.Fills a (sevenTimes (fun k => k.placeReply a) k) :=
    .sevenTimes (fun k => placeReply_fills k a) k
  have audio := pruned.trans (composeAudio_fills _ a (s.beacon a).position (s.beacon a).showState
    (decide ((s.aud a).lane.state = .full)))
  unfold State.composer
  dsimp only
  split
  · exact (((audio.trans (placeDirty_fills _ a)).trans (replies _)).trans (placeForced_fills _ a)).trans
      (.sevenTimes (fun k => placeRefresh_fills k a) _)
  · exact audio.trans (replies _)

/-- A SPARSE lane's frame takes replies alone, from the queue as it stood, and the lane is else as pruned (R146). -/
theorem composer_of_not_full {s : State} {a : Aud} (h : (s.aud a).lane.state ≠ .full) :
    ∃ u, FrameLeaves a id (s.pruneLane a) u ∧ s.composer a = Composer.replied ⟨u, []⟩ a 7 :=
  ⟨_, composeStreams_leaves (s.pruneLane a) a (s.beacon a).position (s.beacon a).showState, by
    simp [State.composer, State.composeAudio, h, sevenTimes_placeReply]⟩

/-- The frame slots of a SPARSE lane's frame: up to seven replies from the front, and EMPTY ones behind them (R146). -/
theorem composer_filled_of_not_full {s : State} {a : Aud} (h : (s.aud a).lane.state ≠ .full) :
    (s.composer a).filled = ((s.aud a).lane.replies.take 7).map (fun r => .reply r (s.replyVersions a r))
      ++ List.replicate (7 - (s.aud a).lane.replies.length) .empty := by
  obtain ⟨u, leaves, composed⟩ := composer_of_not_full h
  have lane : (u.aud a).lane = ((s.pruneLane a).aud a).lane := leaves.lane
  have versions (r : Reply) : u.replyVersions a r = s.replyVersions a r :=
    (leaves.replyVersions r).trans ((pruneLane_leaves s a).replyVersions r)
  have few : 7 - min 7 (s.aud a).lane.replies.length = 7 - (s.aud a).lane.replies.length := by omega
  simp [composed, Composer.filled, Composer.replied, lane, versions, pruneLane_eq, Lane.pruned, few]

/-- The lane after a SPARSE lane's frame is composed: pruned, and without the replies the frame carries (R146). -/
theorem composer_lane_of_not_full {s : State} {a : Aud} (h : (s.aud a).lane.state ≠ .full) :
    ((s.composer a).state.aud a).lane =
      { (s.aud a).lane.pruned (s.rowsHeard a) with replies := (s.aud a).lane.replies.drop 7 } := by
  obtain ⟨u, leaves, composed⟩ := composer_of_not_full h
  have lane : (u.aud a).lane = ((s.pruneLane a).aud a).lane := leaves.lane
  simp [composed, Composer.replied, lane, pruneLane_eq, Lane.pruned]

/-! ### The beacon -/

/-- The beacon position by the tracker's state (R138). -/
theorem beaconPosition_eq (t : Tracker) : beaconPosition t = match t.state with
    | .idle => 0
    | .acquire => 0
    | .locked => min (t.est.ticks + 24) 103679999
    | .freewheel => min (t.est.ticks + 24) 103679999
    | .paused => t.est.ticks
    | .held => t.est.ticks := by
  unfold beaconPosition
  cases t.state <;> rfl

/-! ### The frame event -/

/-- The lane after the first steps of a frame event: the held frame is on the air, and the number is the next (R136). -/
def Lane.sent (l : Lane) : Lane := { l with onAir := l.held, held := none, frameNumber := l.frameNumber + 1 }

/-- Whether the frame event of a lane composes (R136). -/
def Lane.Composes (l : Lane) : Prop := l.state = .full ∨ (l.frameNumber + 1).toNat % 10 = 0

/-- The beacon of the frame composed reads of these steps the number alone (R138). -/
theorem sent_beacon (s : State) (a : Aud) : (s.updLane a Lane.sent).beacon a =
    { s.beacon a with frameNumber := (s.aud a).lane.frameNumber + 1 } := by
  simp [State.beacon, State.stream, Lane.sent]

theorem frameEvent_of_not_composes {s : State} {a : Aud} (h : ¬(s.aud a).lane.Composes) :
    s.frameEvent a = s.updLane a Lane.sent := by
  refine if_neg ?_
  rw [updLane_aud_lane]
  exact h

theorem frameEvent_of_composes {s : State} {a : Aud} (h : (s.aud a).lane.Composes) :
    s.frameEvent a = (((s.updLane a Lane.sent).composer a).state).updLane a (fun l => { l with
      held := some (.beacon ((s.updLane a Lane.sent).beacon a) :: ((s.updLane a Lane.sent).composer a).filled) }) := by
  refine (if_pos ?_).trans (by rw [composeFrame_eq]; rfl)
  rw [updLane_aud_lane]
  exact h

/-- Whether it composes or not, a frame event leaves the frame just sent on the air and its number (R136). -/
theorem frameEvent_leaves (s : State) (a : Aud) :
    FrameLeaves a Lane.onAirView (s.updLane a Lane.sent) (s.frameEvent a) := by
  by_cases h : (s.aud a).lane.Composes
  · rw [frameEvent_of_composes h]
    exact (composer_fills _ a).leaves.trans (.updLane rfl)
  · rw [frameEvent_of_not_composes h]
    exact .refl _

theorem exec_laneFrame_off {a : Aud} {s : State} (off : (s.aud a).lane.state = .off) :
    exec (.laneFrame a) s = .next s :=
  if_pos off

theorem exec_laneFrame {a : Aud} {s : State} (acts : (s.aud a).lane.state ≠ .off) :
    exec (.laneFrame a) s = .next (s.frameEvent a) :=
  if_neg acts

/-! ### What the statement's terms come to -/

/-- The rows of a channel are sent while it is TEXT and has an audience (R137, R145). -/
theorem rowsHeard_iff (s : State) (a : Aud) (c : Chan) :
    s.rowsHeard a c = true ↔ (s.aud a).release.channels[c].kind = .text ∧ 0 < s.audience a c := by
  rw [State.rowsHeard, Bool.and_eq_true, decide_eq_true_iff, decide_eq_true_iff]
  exact Iff.rfl

/-- A reply for a channel carries the versions of its rows (R144). -/
theorem replyVersions_of_channel {s : State} {a : Aud} {r : Reply} {c : Chan} (h : r.channelArg.toNat = c.val)
    (i : RowIx) : (s.replyVersions a r)[i] = (s.row a c i).version := by
  have named : (⟨r.channelArg.toNat, h ▸ c.isLt⟩ : Chan) = c := Fin.ext h
  simp only [State.replyVersions, h ▸ c.isLt, dif_pos, named, vofFn_get]

/-- A reply for no channel carries versions 0 (R144). -/
theorem replyVersions_of_none {s : State} {a : Aud} {r : Reply} (h : 4 ≤ r.channelArg.toNat) (i : RowIx) :
    (s.replyVersions a r)[i] = 0 := by
  simp [State.replyVersions, Nat.not_lt.mpr h]

end Sys2Proof.Machine

namespace Sys2Proof.Proofs

open Sys2Proof.Machine

/-- Settles O38: what is sent and what is left hold of every frame event of a lane that acts; the frame is the
composer's, and in SPARSE the composer has placed replies alone. -/
theorem laneFrameSendsAndComposes : Obligations.LaneFrameSendsAndComposes := by
  refine ⟨fun s a c => ⟨rowsHeard_iff s a c, fun r i => ⟨fun h => replyVersions_of_channel h i,
    fun h => replyVersions_of_none h i⟩⟩, fun a s => ⟨exec_laneFrame_off, fun acts => ?_⟩⟩
  have leaves := frameEvent_leaves s a
  have sent : ((s.updLane a Lane.sent).aud a).lane = (s.aud a).lane.sent := updLane_aud_lane s a _
  obtain ⟨onAir, frameNumber⟩ := Prod.mk.inj leaves.lane
  rw [sent] at onAir frameNumber
  refine ⟨_, exec_laneFrame acts, onAir, frameNumber, frameEvent_of_not_composes, fun composes => ?_,
    by simpa using leaves.tracker, by simpa using leaves.state, by simpa using leaves.release,
    fun b other => (leaves.others b other).trans (updLane_aud_other s _ other), leaves.regs, leaves.pool,
    leaves.devices, leaves.pending⟩
  rw [frameEvent_of_composes composes, updLane_aud_lane, sent_beacon]
  refine ⟨_, _, rfl, filled_length ((composer_fills _ a).slots (Nat.zero_le 7)), rfl, rfl, rfl, rfl,
    beaconPosition_eq _, fun c => ?_, fun sparse => ?_⟩
  · simp [State.beacon]
  · have notFull : ((s.updLane a Lane.sent).aud a).lane.state ≠ .full := by
      rw [sent]
      exact fun full => LaneState.noConfusion (sparse.symm.trans full)
    have sends : FrameLeaves a Lane.state s (s.updLane a Lane.sent) := .updLane rfl
    have heard : (s.updLane a Lane.sent).rowsHeard a = s.rowsHeard a := funext sends.rowsHeard
    rw [composer_filled_of_not_full notFull, composer_lane_of_not_full notFull, heard, sent]
    simp only [sends.replyVersions]
    exact ⟨rfl, rfl, pruned_forced _ _⟩

end Sys2Proof.Proofs
end

section
/-! PROOFS. The Device Table's operations: the entry that a test finds, the entry an unknown device takes, and the
audience counts when an entry changes and when all of them do. -/

namespace Sys2Proof.Machine

/-! ### The lowest entry that a test holds for -/

theorem lowest_eq_some_iff {t : DeviceTable} {test : Option Device → Bool} {i : Fin 1024} :
    t.lowest test = some i ↔ test t.entries[i] = true ∧ ∀ j : Fin 1024, test t.entries[j] = true → i ≤ j := by
  unfold DeviceTable.lowest
  constructor
  · intro found
    split at found
    · next k hit =>
      obtain ⟨bound, holds, before⟩ := List.findIdx?_eq_some_iff_getElem.mp hit
      rw [Vector.length_toList] at bound
      rw [dif_pos bound] at found
      obtain rfl := Option.some.inj found
      exact ⟨by simpa using holds, fun j hj => not_lt.mp fun less => before j less (by simpa using hj)⟩
    · cases found
  · rintro ⟨holds, lowest⟩
    have hit : t.entries.toList.findIdx? test = some i.val :=
      List.findIdx?_eq_some_iff_getElem.mpr ⟨by simp, by simpa using holds, fun j less hj =>
        absurd (lowest ⟨j, less.trans i.isLt⟩ (by simpa using hj)) (not_le.mpr less)⟩
    simp [hit]

theorem lowest_eq_none_iff {t : DeviceTable} {test : Option Device → Bool} :
    t.lowest test = none ↔ ∀ i : Fin 1024, test t.entries[i] = false := by
  unfold DeviceTable.lowest
  split
  · next k hit =>
    obtain ⟨bound, holds, -⟩ := List.findIdx?_eq_some_iff_getElem.mp hit
    rw [Vector.length_toList] at bound
    rw [dif_pos bound]
    rw [Vector.getElem_toList] at holds
    exact iff_of_false nofun fun miss => Bool.noConfusion ((miss ⟨k, bound⟩).symm.trans holds)
  · next miss =>
    rw [List.findIdx?_eq_none_iff] at miss
    exact iff_of_true rfl fun i => miss _ (by simp)

/-! ### A device's entry -/

theorem ownedBy_iff (s : State) (id : BitVec 32) (i : Fin 1024) :
    ownedBy id s.devices.entries[i] = true ↔ ∃ d, EntryOf s id i d := by
  unfold ownedBy EntryOf
  cases s.devices.entries[i] <;> simp

theorem find_eq_some_iff {s : State} {id : BitVec 32} {i : Fin 1024} : s.devices.find id = some i ↔
    (∃ d, EntryOf s id i d) ∧ ∀ (j : Fin 1024) (e : Device), EntryOf s id j e → i ≤ j := by
  simp only [DeviceTable.find, lowest_eq_some_iff, ownedBy_iff, forall_exists_index]

theorem find_eq_none_iff {s : State} {id : BitVec 32} : s.devices.find id = none ↔
    ∀ (i : Fin 1024) (d : Device), ¬EntryOf s id i d := by
  simp only [DeviceTable.find, lowest_eq_none_iff, ← Bool.not_eq_true, ownedBy_iff, not_exists]

/-! ### The entry an unknown device takes -/

/-- The lowest FREE entry is taken first (R158). -/
theorem roomFor_of_free {t : DeviceTable} {i : Fin 1024} (free : t.entries[i] = none)
    (lowest : ∀ j : Fin 1024, t.entries[j] = none → i ≤ j) : t.roomFor = some i := by
  have found : t.lowest Option.isNone = some i :=
    lowest_eq_some_iff.mpr ⟨by rw [free]; rfl, fun j hj => lowest j (Option.isNone_iff_eq_none.mp hj)⟩
  simp [DeviceTable.roomFor, found]

/-- With no entry FREE, the QUIET ones of greatest silence are looked at (R158). -/
theorem roomFor_of_taken {t : DeviceTable} (taken : ∀ i : Fin 1024, t.entries[i] ≠ none) : t.roomFor =
    t.greatestSilence.bind (fun n => t.lowest (fun d => decide (quietSilence d = some n))) := by
  have noneFree : t.lowest Option.isNone = none :=
    lowest_eq_none_iff.mpr fun i => Option.isNone_eq_false_iff.mpr (Option.isSome_iff_ne_none.mpr (taken i))
  simp only [DeviceTable.roomFor, noneFree]
  cases t.greatestSilence <;> rfl

theorem quietSilence_eq_some_iff {d : Option Device} {n : Nat} :
    quietSilence d = some n ↔ ∃ e, d = some e ∧ e.status ≠ .active ∧ e.silence = n := by
  unfold quietSilence
  cases d with
  | none => simp
  | some e => by_cases active : e.status = .active <;> simp [active]

theorem mem_quietSilences_iff {t : DeviceTable} {n : Nat} : n ∈ t.entries.toList.filterMap quietSilence ↔
    ∃ (i : Fin 1024) (e : Device), t.entries[i] = some e ∧ e.status ≠ .active ∧ e.silence = n := by
  simp only [List.mem_filterMap, quietSilence_eq_some_iff, Vector.mem_toList_iff, Vector.mem_iff_getElem]
  constructor
  · rintro ⟨_, ⟨i, hi, rfl⟩, entry⟩
    exact ⟨⟨i, hi⟩, entry⟩
  · rintro ⟨i, entry⟩
    exact ⟨_, ⟨i, i.isLt, rfl⟩, entry⟩

/-- The lowest of the QUIET entries of greatest silence is taken (R158). -/
theorem roomFor_of_quiet {t : DeviceTable} {i : Fin 1024} {d : Device}
    (taken : ∀ i : Fin 1024, t.entries[i] ≠ none) (entry : t.entries[i] = some d) (quiet : d.status ≠ .active)
    (greatest : ∀ (j : Fin 1024) (e : Device), t.entries[j] = some e → e.status ≠ .active →
      e.silence < d.silence ∨ (e.silence = d.silence ∧ i ≤ j)) : t.roomFor = some i := by
  have silence : t.greatestSilence = some d.silence := by
    refine List.max?_eq_some_iff.mpr ⟨mem_quietSilences_iff.mpr ⟨i, d, entry, quiet, rfl⟩, fun n hn => ?_⟩
    obtain ⟨j, e, he, hq, rfl⟩ := mem_quietSilences_iff.mp hn
    rcases greatest j e he hq with less | ⟨equal, -⟩
    · exact less.le
    · exact equal.le
  rw [roomFor_of_taken taken, silence, Option.bind_some, lowest_eq_some_iff]
  simp only [decide_eq_true_iff, quietSilence_eq_some_iff]
  refine ⟨⟨d, entry, quiet, rfl⟩, ?_⟩
  rintro j ⟨e, he, hq, equal⟩
  rcases greatest j e he hq with less | ⟨-, before⟩
  · exact absurd equal less.ne
  · exact before

/-- A table of ACTIVE devices has no room (R158). -/
theorem roomFor_of_full {t : DeviceTable} (taken : ∀ i : Fin 1024, t.entries[i] ≠ none)
    (active : ∀ (i : Fin 1024) (d : Device), t.entries[i] = some d → d.status = .active) : t.roomFor = none := by
  have greatest : t.greatestSilence = none := by
    refine List.max?_eq_none_iff.mpr (List.eq_nil_iff_forall_not_mem.mpr fun n hn => ?_)
    obtain ⟨i, d, entry, quiet, -⟩ := mem_quietSilences_iff.mp hn
    exact quiet (active i d entry)
  rw [roomFor_of_taken taken, greatest, Option.bind_none]

/-! ### The audience counts -/

/-- Whether an entry is ACTIVE on a channel of an auditorium (R153). -/
def activeAt (a : Aud) (c : Chan) (d : Option Device) : Bool :=
  match d with
  | some d => decide (d.status = .active ∧ d.auditorium = a ∧ d.channel = c)
  | none => false

theorem activeOn_eq_countP (t : DeviceTable) (a : Aud) (c : Chan) :
    t.activeOn a c = t.entries.toList.countP (activeAt a c) :=
  List.countP_eq_length_filter.symm

theorem setAudience_get (t : DeviceTable) (a b : Aud) (c e : Chan) (n : Nat) :
    (t.setAudience a c n).audience[b][e] = if a = b ∧ c = e then n else t.audience[b][e] := by
  unfold DeviceTable.setAudience
  by_cases hb : b = a
  · subst hb
    rw [vector_set_same]
    by_cases he : e = c
    · subst he
      simp
    · rw [vector_set_other _ _ he, if_neg (fun h => he h.2.symm)]
  · rw [vector_set_other _ _ hb, if_neg (fun h => hb h.1.symm)]

/-- Where an entry is ACTIVE, the count of its own channel is changed, and no other (R153). -/
theorem recount_audience (t : DeviceTable) (d : Device) (f : Nat → Nat) (a : Aud) (c : Chan) :
    (if d.status = .active then t.setAudience d.auditorium d.channel (f t.audience[d.auditorium][d.channel])
      else t).audience[a][c]
      = if activeAt a c (some d) then f t.audience[a][c] else t.audience[a][c] := by
  simp only [activeAt, decide_eq_true_iff]
  by_cases active : d.status = .active
  · rw [if_pos active, setAudience_get]
    simp only [active, true_and]
    split
    · next here => obtain ⟨rfl, rfl⟩ := here; rfl
    · rfl
  · rw [if_neg active, if_neg (fun h => active h.1)]

theorem uncount_audience (t : DeviceTable) (d : Option Device) (a : Aud) (c : Chan) :
    (t.uncount d).audience[a][c] = t.audience[a][c] - if activeAt a c d then 1 else 0 := by
  cases d with
  | none => rfl
  | some d =>
    refine (recount_audience t d (· - 1) a c).trans ?_
    split <;> rfl

theorem count_audience (t : DeviceTable) (d : Option Device) (a : Aud) (c : Chan) :
    (t.count d).audience[a][c] = t.audience[a][c] + if activeAt a c d then 1 else 0 := by
  cases d with
  | none => rfl
  | some d =>
    refine (recount_audience t d (· + 1) a c).trans ?_
    split <;> rfl

/-- Counting changes the audience counts alone. -/
theorem uncount_frame (t : DeviceTable) (d : Option Device) :
    t.uncount d = { t with audience := (t.uncount d).audience } := by
  unfold DeviceTable.uncount DeviceTable.setAudience
  cases d with
  | none => rfl
  | some d => dsimp only; split <;> rfl

theorem count_frame (t : DeviceTable) (d : Option Device) :
    t.count d = { t with audience := (t.count d).audience } := by
  unfold DeviceTable.count DeviceTable.setAudience
  cases d with
  | none => rfl
  | some d => dsimp only; split <;> rfl

/-! ### One entry changed -/

/-- An entry changed changes that entry, and beside it the audience counts alone (R153). -/
theorem put_frame (t : DeviceTable) (i : Fin 1024) (d : Option Device) :
    t.put i d = { t with entries := t.entries.set i d, audience := (t.put i d).audience } := by
  unfold DeviceTable.put
  dsimp only
  rw [count_frame, uncount_frame]

theorem put_audience (t : DeviceTable) (i : Fin 1024) (d : Option Device) (a : Aud) (c : Chan) :
    (t.put i d).audience[a][c]
      = t.audience[a][c] - (if activeAt a c t.entries[i] then 1 else 0) + if activeAt a c d then 1 else 0 := by
  rw [← uncount_audience, ← count_audience]
  rfl

theorem put_activeOn (t : DeviceTable) (i : Fin 1024) (d : Option Device) (a : Aud) (c : Chan) :
    (t.put i d).activeOn a c
      = t.activeOn a c - (if activeAt a c t.entries[i] then 1 else 0) + if activeAt a c d then 1 else 0 := by
  rw [activeOn_eq_countP, put_frame, Vector.toList_set, List.countP_set (by simp), ← activeOn_eq_countP]
  simp only [Vector.getElem_toList]
  rfl

/-- A sound table stays sound when an entry is freed, or given to a device that no other entry is of. -/
theorem put_devicesOk {t : DeviceTable} (ok : DevicesOk t) (i : Fin 1024) (d : Option Device)
    (own : ∀ x, d = some x → ∀ (j : Fin 1024) (e : Device), t.entries[j] = some e → e.id = x.id → j = i) :
    DevicesOk (t.put i d) where
  audience a c := by rw [put_audience, put_activeOn, ok.audience]
  unique j k x y hx hy same := by
    rw [put_frame] at hx hy
    by_cases hj : j = i
    · subst hj
      by_contra other
      rw [vector_set_same] at hx
      rw [vector_set_other _ _ (Ne.symm other)] at hy
      exact other (own x hx k y hy same.symm).symm
    · rw [vector_set_other _ _ hj] at hx
      by_cases hk : k = i
      · subst hk
        rw [vector_set_same] at hy
        exact own y hy j x hx same
      · rw [vector_set_other _ _ hk] at hy
        exact ok.unique j k x y hx hy same
  quiet := by rw [put_frame]; exact ok.quiet
  release := by rw [put_frame]; exact ok.release
  apart := by rw [put_frame]; exact ok.apart

/-! ### Every entry changed -/

/-- Entries uncounted one after another change the audience counts alone. -/
theorem foldl_uncount_frame (ds : List (Option Device)) (t : DeviceTable) :
    ds.foldl (fun t d => t.uncount d) t
      = { t with audience := (ds.foldl (fun t d => t.uncount d) t).audience } :=
  foldl_keeps (fun t u : DeviceTable => u = { t with audience := u.audience }) (fun _ => rfl)
    (fun h k => by rw [k, h]) _ uncount_frame ds t

/-- They lower each count by their number on its channel. -/
theorem foldl_uncount_audience (a : Aud) (c : Chan) : ∀ (ds : List (Option Device)) (t : DeviceTable),
    (ds.foldl (fun t d => t.uncount d) t).audience[a][c] = t.audience[a][c] - ds.countP (activeAt a c)
  | [], _ => rfl
  | d :: ds, t => by
    rw [List.foldl_cons, foldl_uncount_audience a c ds, uncount_audience, Nat.sub_sub, List.countP_cons,
      Nat.add_comm]

/-- All entries changed by one function change the entries and the audience counts alone. -/
theorem quieten_frame (t : DeviceTable) (f : Option Device → Option Device) :
    t.quieten f = { t with entries := vmap f t.entries, audience := (t.quieten f).audience } := by
  unfold DeviceTable.quieten
  dsimp only
  rw [foldl_uncount_frame]

/-- Whether a function keeps the place of every entry that stays ACTIVE and makes none ACTIVE. -/
def Quietens (f : Option Device → Option Device) : Prop :=
  ∀ (a : Aud) (c : Chan) (d : Option Device), activeAt a c (f d) = (activeAt a c d && isActive (f d))

theorem isActive_of_activeAt {a : Aud} {c : Chan} {d : Option Device} (h : activeAt a c d = true) :
    isActive d = true := by
  cases d with
  | none => exact h
  | some d =>
    have here : d.status = .active ∧ d.auditorium = a ∧ d.channel = c := of_decide_eq_true h
    exact decide_eq_true here.1

/-- The ACTIVE entries of a channel are those that stay ACTIVE and those that are uncounted. -/
theorem countP_activeAt_split {f : Option Device → Option Device} (quietens : Quietens f) (a : Aud) (c : Chan)
    (ds : List (Option Device)) : ds.countP (activeAt a c)
      = (ds.map f).countP (activeAt a c)
        + (ds.filter (fun d => isActive d && !isActive (f d))).countP (activeAt a c) := by
  induction ds with
  | nil => rfl
  | cons d ds ih =>
    rw [List.countP_filter] at ih
    rw [List.countP_filter, List.map_cons, List.countP_cons, List.countP_cons, List.countP_cons, ih,
      quietens a c d]
    cases here : activeAt a c d with
    | false => simp
    | true => cases stays : isActive (f d) <;> simp [isActive_of_activeAt here] <;> omega

/-- Counts that are right stay right (R153). -/
theorem quieten_counts {t : DeviceTable} {f : Option Device → Option Device} (quietens : Quietens f)
    (right : ∀ (a : Aud) (c : Chan), t.audience[a][c] = t.activeOn a c) (a : Aud) (c : Chan) :
    (t.quieten f).audience[a][c] = (t.quieten f).activeOn a c := by
  have entries : (t.quieten f).entries.toList = t.entries.toList.map f := by
    rw [quieten_frame]
    rfl
  rw [activeOn_eq_countP, entries]
  refine (foldl_uncount_audience a c _ t).trans ?_
  rw [right, activeOn_eq_countP, countP_activeAt_split quietens, Nat.add_sub_cancel]

end Sys2Proof.Machine
end

section
/-! PROOFS. The Device Table's messages: a message taken, what a JOIN comes to on a closed channel, with room and with
none, a reply handed, and the statement about a JOIN. -/

namespace Sys2Proof.Machine

/-! ### A message taken -/

theorem messageTaken_lane_state (s : State) (a : Aud) :
    ((s.messageTaken a).aud a).lane.state = (s.aud a).lane.state :=
  congrArg (fun x => x.lane.state) (aud_setAud_same s a _)

theorem messageTaken_channels (s : State) (a : Aud) :
    ((s.messageTaken a).aud a).release.channels = (s.aud a).release.channels :=
  congrArg (fun x => x.release.channels) (aud_setAud_same s a _)

/-- The intake pointer is no part of what makes the table sound. -/
theorem messageTaken_devicesOk {s : State} (a : Aud) (ok : DevicesOk s.devices) :
    DevicesOk (s.messageTaken a).devices :=
  ⟨ok.audience, ok.unique, ok.quiet, ok.release, ok.apart⟩

theorem exec_join {s : State} {a : Aud} {m : UplinkMessage} (next : s.nextMessage = some (a, m))
    (kind : m.kind = .join) : exec .join s = .next ((s.messageTaken a).takeJoin a m) := by
  change execJoin s = _
  simp only [execJoin, next, kind, if_true]
  rfl

/-! ### The channel of a JOIN -/

theorem openChannel_eq_some_iff {s : State} {a : Aud} {m : UplinkMessage} {c : Chan} :
    s.openChannel a m = some c ↔ ChannelOpen s a m c := by
  unfold State.openChannel ChannelOpen State.channelKind
  split
  · next small =>
    split
    · next off =>
      refine iff_of_false nofun fun ⟨named, acts⟩ => acts ?_
      rwa [show c = ⟨m.channelArg.toNat, small⟩ from Fin.ext named.symm]
    · next acts =>
      constructor
      · rintro ⟨⟩
        exact ⟨rfl, acts⟩
      · rintro ⟨named, -⟩
        exact congrArg some (Fin.ext named)
  · next large => exact iff_of_false nofun fun ⟨named, _⟩ => large (named ▸ c.isLt)

theorem channelOpen_messageTaken {s : State} {a : Aud} {m : UplinkMessage} {c : Chan} :
    ChannelOpen (s.messageTaken a) a m c ↔ ChannelOpen s a m c := by
  rw [ChannelOpen, messageTaken_channels]
  exact Iff.rfl

/-! ### A reply handed -/

@[simp] theorem replyEvent_devices (s : State) (a : Aud) (r : Reply) : (s.replyEvent a r).devices = s.devices := by
  rw [replyEvent_frame, setAud_devices]

theorem replyEvent_lane (s : State) (a : Aud) (r : Reply) : ((s.replyEvent a r).aud a).lane =
    { (s.aud a).lane with replies := ((s.replyEvent a r).aud a).lane.replies } :=
  (congrArg (fun t : State => (t.aud a).lane) (replyEvent_frame s a r)).trans
    (congrArg Auditorium.lane (aud_setAud_same s a _))

theorem replyEvent_handed {s : State} {a : Aud} (acts : (s.aud a).lane.state ≠ .off) (r : Reply) :
    ReplyHanded (s.aud a) ((s.replyEvent a r).aud a) r := by
  unfold ReplyHanded State.replyEvent
  simp only [if_neg acts]
  split
  · simp
  · simp [Counter.index]

/-! ### What a JOIN comes to -/

theorem takeJoin_of_closed {s : State} {a : Aud} {m : UplinkMessage} (closed : s.openChannel a m = none) :
    s.takeJoin a m = s.replyEvent a ⟨m.device, .channelClosed, m.channelArg⟩ := by
  simp only [State.takeJoin, closed]

/-- The entry that a JOIN on an open channel takes: the device's own, or what an unknown device takes (R157, R158). -/
def DeviceTable.place (t : DeviceTable) (id : BitVec 32) : Option (Fin 1024) := (t.find id).or t.roomFor

theorem takeJoin_of_place {s : State} {a : Aud} {m : UplinkMessage} {c : Chan} {i : Fin 1024}
    (openAt : s.openChannel a m = some c) (place : s.devices.place m.device = some i) :
    s.takeJoin a m = (s.putDevice i (some ⟨m.device, a, c, 0, .active⟩)).acceptJoin a c m := by
  unfold DeviceTable.place at place
  cases known : s.devices.find m.device with
  | some j =>
    rw [known, Option.some_or] at place
    simp only [State.takeJoin, openAt, known, Option.some.inj place]
  | none =>
    rw [known, Option.none_or] at place
    simp only [State.takeJoin, openAt, known, place]

theorem takeJoin_of_no_place {s : State} {a : Aud} {m : UplinkMessage} {c : Chan}
    (openAt : s.openChannel a m = some c) (full : s.devices.place m.device = none) :
    s.takeJoin a m = (s.replyEvent a ⟨m.device, .tableFull, m.channelArg⟩).report (Party.slot a) .minor
      .deviceTableFull none none := by
  obtain ⟨known, room⟩ := Option.or_eq_none_iff.mp full
  simp only [State.takeJoin, openAt, known, room]

/-- The place of a known device is its entry; in a sound table it has no other. -/
theorem place_own {s : State} (ok : DevicesOk s.devices) {id : BitVec 32} {i j : Fin 1024} {e : Device}
    (place : s.devices.place id = some i) (entry : EntryOf s id j e) : j = i := by
  cases known : s.devices.find id with
  | none => exact absurd entry (find_eq_none_iff.mp known j e)
  | some k =>
    rw [DeviceTable.place, known, Option.some_or] at place
    obtain ⟨⟨d, taken, owned⟩, -⟩ := find_eq_some_iff.mp (known.trans place)
    exact ok.unique j i e d entry.1 taken (entry.2.trans owned.symm)

/-! ### A JOIN accepted -/

/-- A lane that acts is in FULL after an activation event (R135). -/
theorem activation_eq {l : Lane} (acts : l.state ≠ .off) :
    l.activation = { l with state := .full, zeroAudience := 0 } := by
  unfold Lane.activation
  split
  · next off => exact absurd off acts
  · rfl

/-- A lane that acts has all four rows of the channel to repeat after a repeat event (R142). -/
theorem repeatEvent_eq {l : Lane} (acts : l.state ≠ .off) (c : Chan) :
    l.repeatEvent c = { l with forced := l.forced.set c (Vector.replicate 4 true) } :=
  if_neg acts

/-- A lane after the activation and the repeat event of an accepted JOIN (R159). -/
def Lane.joined (l : Lane) (c : Chan) : Lane :=
  { l with state := .full, zeroAudience := 0, forced := l.forced.set c (Vector.replicate 4 true) }

theorem acceptJoin_eq {s : State} {a : Aud} (acts : (s.aud a).lane.state ≠ .off) (c : Chan) (m : UplinkMessage) :
    s.acceptJoin a c m = (s.setAud a { s.aud a with lane := (s.aud a).lane.joined c }).replyEvent a
      ⟨m.device, .accepted, m.channelArg⟩ := by
  simp [State.acceptJoin, State.updLane, activation_eq acts, repeatEvent_eq, Lane.joined]

theorem acceptJoin_devices (s : State) (a : Aud) (c : Chan) (m : UplinkMessage) :
    (s.acceptJoin a c m).devices = s.devices := by
  simp [State.acceptJoin]

theorem acceptJoin_lane {s : State} {a : Aud} (acts : (s.aud a).lane.state ≠ .off) (c : Chan) (m : UplinkMessage) :
    ((s.acceptJoin a c m).aud a).lane =
      { (s.aud a).lane.joined c with replies := ((s.acceptJoin a c m).aud a).lane.replies } := by
  rw [acceptJoin_eq acts]
  exact (replyEvent_lane _ a _).trans (by rw [aud_setAud_same])

theorem acceptJoin_handed {s : State} {a : Aud} (acts : (s.aud a).lane.state ≠ .off) (c : Chan)
    (m : UplinkMessage) :
    ReplyHanded (s.aud a) ((s.acceptJoin a c m).aud a) ⟨m.device, .accepted, m.channelArg⟩ := by
  have handed := replyEvent_handed (s := s.setAud a { s.aud a with lane := (s.aud a).lane.joined c }) (a := a)
    (by rw [aud_setAud_same]; nofun) ⟨m.device, .accepted, m.channelArg⟩
  rwa [← acceptJoin_eq acts, aud_setAud_same] at handed

/-- The three events of an accepted JOIN change the lane and the counters of its auditorium alone (R159). -/
theorem acceptJoin_frame {s : State} {a : Aud} (acts : (s.aud a).lane.state ≠ .off) (c : Chan)
    (m : UplinkMessage) : s.acceptJoin a c m = s.setAud a { s.aud a with
      lane := ((s.acceptJoin a c m).aud a).lane, counters := ((s.acceptJoin a c m).aud a).counters } := by
  rw [acceptJoin_eq acts]
  refine (replyEvent_frame _ a _).trans ?_
  rw [← replyEvent_lane, aud_setAud_same, setAud_twice]

theorem acceptJoin_accepted {s : State} {a : Aud} (acts : (s.aud a).lane.state ≠ .off) (c : Chan)
    (m : UplinkMessage) (i : Fin 1024) :
    JoinAccepted s ((s.putDevice i (some ⟨m.device, a, c, 0, .active⟩)).acceptJoin a c m) a c m i := by
  refine ⟨?_, acceptJoin_lane (s := s.putDevice i _) acts c m, acceptJoin_handed (s := s.putDevice i _) acts c m,
    ?_⟩
  · rw [acceptJoin_devices]
    exact put_frame s.devices i _
  · rw [acceptJoin_devices]
    exact acceptJoin_frame (s := s.putDevice i _) acts c m

/-- A JOIN leaves a sound table sound. -/
theorem takeJoin_devicesOk {s : State} (ok : DevicesOk s.devices) (a : Aud) (m : UplinkMessage) :
    DevicesOk (s.takeJoin a m).devices := by
  cases channel : s.openChannel a m with
  | none =>
    rw [takeJoin_of_closed channel, replyEvent_devices]
    exact ok
  | some c =>
    cases place : s.devices.place m.device with
    | none =>
      rw [takeJoin_of_no_place channel place, report_devices, replyEvent_devices]
      exact ok
    | some i =>
      rw [takeJoin_of_place channel place, acceptJoin_devices]
      refine put_devicesOk ok i _ ?_
      rintro _ ⟨⟩ j e entry owned
      exact place_own ok place ⟨entry, owned⟩

end Sys2Proof.Machine

namespace Sys2Proof.Proofs

open Sys2Proof.Machine

/-- Settles O42: a closed channel, then a place in the table by its four sources, then no place. -/
theorem joinTakesAnEntry : Obligations.JoinTakesAnEntry := by
  intro s a m next kind acts
  have running : ((s.messageTaken a).aud a).lane.state ≠ .off := by rwa [messageTaken_lane_state]
  refine ⟨_, exec_join next kind, fun ok => takeJoin_devicesOk (messageTaken_devicesOk a ok) a m,
    fun closed => ?_, fun c channel => ?_⟩
  · have shut : (s.messageTaken a).openChannel a m = none := Option.eq_none_iff_forall_ne_some.mpr fun c h =>
      closed c (channelOpen_messageTaken.mp (openChannel_eq_some_iff.mp h))
    rw [takeJoin_of_closed shut]
    exact ⟨replyEvent_handed running _, replyEvent_frame _ _ _⟩
  · have openAt : (s.messageTaken a).openChannel a m = some c :=
      openChannel_eq_some_iff.mpr (channelOpen_messageTaken.mpr channel)
    have accepted {i : Fin 1024} (place : (s.messageTaken a).devices.place m.device = some i) :
        JoinAccepted (s.messageTaken a) ((s.messageTaken a).takeJoin a m) a c m i := by
      rw [takeJoin_of_place openAt place]
      exact acceptJoin_accepted running c m i
    refine ⟨fun i d entry lowest => accepted ?_, fun unknown => ?_⟩
    · have known : (s.messageTaken a).devices.find m.device = some i := find_eq_some_iff.mpr ⟨⟨d, entry⟩, lowest⟩
      rw [DeviceTable.place, known, Option.some_or]
    · have place : (s.messageTaken a).devices.place m.device = s.devices.roomFor := by
        rw [DeviceTable.place, find_eq_none_iff (s := s.messageTaken a).mpr unknown, Option.none_or]
        rfl
      refine ⟨fun i free lowest => accepted (place.trans (roomFor_of_free free lowest)), fun taken =>
        ⟨fun i d entry quiet greatest => accepted (place.trans (roomFor_of_quiet taken entry quiet greatest)),
          fun active => ?_⟩⟩
      rw [takeJoin_of_no_place openAt (place.trans (roomFor_of_full taken active))]
      exact ⟨_, replyEvent_frame _ _ _, replyEvent_handed running _, rfl⟩

end Sys2Proof.Proofs
end

section
/-! PROOFS. Known devices: an ALIVE, a REPEAT and a LEAVE by the entry of their device, the ageing of one entry and of
the table, and the statement about both. -/

namespace Sys2Proof.Machine

/-! ### A message of a device that is not known on the lane -/

theorem ownEntry_of_entry {s : State} (ok : DevicesOk s.devices) {a : Aud} {m : UplinkMessage} {i : Fin 1024}
    {d : Device} (entry : EntryOf s m.device i d) (here : d.auditorium = a) : s.ownEntry a m = some (i, d) := by
  obtain ⟨taken, owned⟩ := entry
  have found : s.devices.find m.device = some i := find_eq_some_iff.mpr ⟨⟨d, taken, owned⟩,
    fun j e other => (ok.unique j i e d other.1 taken (other.2.trans owned.symm)).ge⟩
  simp only [State.ownEntry, found, taken, if_pos here]

theorem ownEntry_of_stray {s : State} {a : Aud} {m : UplinkMessage}
    (stray : ∀ (i : Fin 1024) (d : Device), EntryOf s m.device i d → d.auditorium ≠ a) :
    s.ownEntry a m = none := by
  unfold State.ownEntry
  split
  · rfl
  · next i found =>
    obtain ⟨⟨d, taken, owned⟩, -⟩ := find_eq_some_iff.mp found
    simp only [taken, if_neg (stray i d ⟨taken, owned⟩)]

/-- A message of a device not known on the lane is counted, whichever of the three it is (R163). -/
theorem take_of_stray {s : State} {a : Aud} {m : UplinkMessage} (stray : s.ownEntry a m = none) :
    s.takeAlive a m = s.bump a .stray 1 ∧ s.takeRepeat a m = s.bump a .stray 1
      ∧ s.takeLeave a m = s.bump a .stray 1 := by
  simp only [State.takeAlive, State.takeRepeat, State.takeLeave, stray, and_self]

/-! ### Changes of a lane compared -/

theorem updLane_of_same {s : State} {a : Aud} {f : Lane → Lane} (same : f (s.aud a).lane = (s.aud a).lane) :
    s.updLane a f = s := by
  rw [State.updLane, same]
  exact setAud_self s a

theorem updLane_twice (s : State) (a : Aud) (f g : Lane → Lane) :
    (s.updLane a f).updLane a g = s.updLane a (fun l => g (f l)) := by
  simp [State.updLane]

theorem updLane_congr {s : State} {a : Aud} {f g : Lane → Lane} (same : f (s.aud a).lane = g (s.aud a).lane) :
    s.updLane a f = s.updLane a g := by
  rw [State.updLane, State.updLane, same]

/-! ### A device heard on its own lane -/

/-- A device's entry once the device is heard (R160). -/
def Device.heard (d : Device) : Device :=
  { d with silence := 0, status := if d.status = .quietSilent then .active else d.status }

/-- The lane of a device that is heard: a QUIET one whose cause is SILENT returns, with an activation event (R160). -/
def Lane.returned (l : Lane) (d : Device) : Lane :=
  if d.status = .quietSilent then { l with state := .full, zeroAudience := 0 } else l

theorem returned_state_ne_off {l : Lane} (acts : l.state ≠ .off) (d : Device) : (l.returned d).state ≠ .off := by
  unfold Lane.returned
  split
  · nofun
  · exact acts

theorem returned_forced (l : Lane) (d : Device) : (l.returned d).forced = l.forced := by
  unfold Lane.returned
  split <;> rfl

theorem aliveEntry_eq {s : State} {a : Aud} (acts : (s.aud a).lane.state ≠ .off) (i : Fin 1024) (d : Device) :
    s.aliveEntry a i d = (s.putDevice i (some d.heard)).updLane a (·.returned d) := by
  by_cases silent : d.status = .quietSilent
  · have returned : (s.aud a).lane.activation = (s.aud a).lane.returned d := by
      rw [activation_eq acts, Lane.returned, if_pos silent]
    refine Eq.trans ?_ (updLane_congr (s := s.putDevice i (some d.heard)) returned)
    simp only [State.aliveEntry, Device.heard, silent, if_true]
  · have same : (s.aud a).lane.returned d = (s.aud a).lane := if_neg silent
    refine Eq.trans ?_ (updLane_of_same (s := s.putDevice i (some d.heard)) (f := (·.returned d)) same).symm
    rw [Device.heard, if_neg silent]
    unfold State.aliveEntry
    split
    · rfl
    · rfl
    · next h => exact absurd h silent

theorem takeAlive_of_entry {s : State} {a : Aud} {m : UplinkMessage} {i : Fin 1024} {d : Device}
    (acts : (s.aud a).lane.state ≠ .off) (own : s.ownEntry a m = some (i, d)) :
    s.takeAlive a m = (s.putDevice i (some d.heard)).updLane a (·.returned d) := by
  simp only [State.takeAlive, own, aliveEntry_eq acts]

/-- The lane of a device whose REPEAT is taken: the rows of its channel are asked for unless its cause is CLOSED
(R161). -/
def Lane.asked (l : Lane) (d : Device) : Lane :=
  { l.returned d with
    forced := if d.status = .quietClosed then l.forced else l.forced.set d.channel (Vector.replicate 4 true) }

theorem takeRepeat_of_entry {s : State} {a : Aud} {m : UplinkMessage} {i : Fin 1024} {d : Device}
    (acts : (s.aud a).lane.state ≠ .off) (own : s.ownEntry a m = some (i, d)) :
    s.takeRepeat a m = (s.putDevice i (some d.heard)).updLane a (·.asked d) := by
  simp only [State.takeRepeat, own, aliveEntry_eq acts]
  split
  · next closed =>
    refine updLane_congr ?_
    rw [Lane.asked, if_pos closed, ← returned_forced]
  · next heard =>
    refine (updLane_twice _ a _ _).trans (updLane_congr (s := s.putDevice i _) ?_)
    refine (repeatEvent_eq (returned_state_ne_off acts d) d.channel).trans ?_
    rw [Lane.asked, if_neg heard, returned_forced]
    rfl

theorem takeLeave_of_entry {s : State} {a : Aud} {m : UplinkMessage} {i : Fin 1024} {d : Device}
    (own : s.ownEntry a m = some (i, d)) : s.takeLeave a m = s.putDevice i none := by
  simp only [State.takeLeave, own]

/-- A device's entry freed, or kept the same device's, leaves a sound table sound. -/
theorem put_own_devicesOk {s : State} (ok : DevicesOk s.devices) {id : BitVec 32} {i : Fin 1024} {d : Device}
    (entry : EntryOf s id i d) {x : Option Device} (same : ∀ e, x = some e → e.id = d.id) :
    DevicesOk (s.devices.put i x) :=
  put_devicesOk ok i x fun e kept j f taken owned => ok.unique j i f d taken entry.1 (owned.trans (same e kept))

/-! ### The commands -/

theorem exec_alive {s : State} {a : Aud} {m : UplinkMessage} (next : s.nextMessage = some (a, m))
    (kind : m.kind = .alive) : exec .alive s = .next ((s.messageTaken a).takeAlive a m) := by
  change execAlive s = _
  simp only [execAlive, next, kind, if_true]
  rfl

theorem exec_repeatRows {s : State} {a : Aud} {m : UplinkMessage} (next : s.nextMessage = some (a, m))
    (kind : m.kind = .repeatRows) : exec .repeatRows s = .next ((s.messageTaken a).takeRepeat a m) := by
  change execRepeatRows s = _
  simp only [execRepeatRows, next, kind, if_true]
  rfl

theorem exec_leave {s : State} {a : Aud} {m : UplinkMessage} (next : s.nextMessage = some (a, m))
    (kind : m.kind = .leave) : exec .leave s = .next ((s.messageTaken a).takeLeave a m) := by
  change execLeave s = _
  simp only [execLeave, next, kind, if_true]
  rfl

/-! ### The ageing of the entries -/

/-- An entry at the sweep: freed, QUIET or as it was, by its silence one second on (R164). -/
theorem sweepEntry_some (quiet release : Nat) (d : Device) : sweepEntry quiet release (some d) =
    if release ≤ min (d.silence + 1) 65535 then none
    else some { d with
      silence := min (d.silence + 1) 65535
      status := if d.status = .active ∧ quiet ≤ min (d.silence + 1) 65535 then .quietSilent else d.status } := by
  simp only [sweepEntry]
  split
  · rfl
  · split <;> rfl

/-- The sweep makes no entry ACTIVE, and moves none to another channel. -/
theorem sweepEntry_quietens (quiet release : Nat) : Quietens (sweepEntry quiet release) := by
  intro a c d
  cases d with
  | none => rfl
  | some d =>
    rw [sweepEntry_some]
    by_cases freed : release ≤ min (d.silence + 1) 65535
    · simp [freed, activeAt, isActive]
    · by_cases silent : d.status = .active ∧ quiet ≤ min (d.silence + 1) 65535
      · simp [freed, silent, activeAt, isActive]
      · simp only [freed, silent, activeAt, isActive, if_false]
        by_cases active : d.status = .active <;> simp [active]

end Sys2Proof.Machine

namespace Sys2Proof.Proofs

open Sys2Proof.Machine

/-- Settles O43: a message is stray or of the entry that is the device's own; the sweep changes every entry by one
function, which makes none ACTIVE. -/
theorem knownDevicesHeardAndAged : Obligations.KnownDevicesHeardAndAged := by
  refine ⟨fun s a m sound next runs => ?_, fun s => ⟨_, rfl, fun i => ?_, 
    congrArg (fun t => { s with devices := t }) (quieten_frame s.devices _),
    quieten_counts (sweepEntry_quietens _ _)⟩⟩
  · have acts : ((s.messageTaken a).aud a).lane.state ≠ .off := by rwa [messageTaken_lane_state]
    have ok := messageTaken_devicesOk a sound
    refine ⟨fun stray => ?_, fun i d entry here => ?_⟩
    · obtain ⟨alive, again, leave⟩ := take_of_stray (ownEntry_of_stray (s := s.messageTaken a) stray)
      exact ⟨fun kind => (exec_alive next kind).trans (congrArg _ alive),
        fun kind => (exec_repeatRows next kind).trans (congrArg _ again),
        fun kind => (exec_leave next kind).trans (congrArg _ leave)⟩
    · have own := ownEntry_of_entry ok (m := m) entry here
      have entered {x : Option Device} (same : ∀ e, x = some e → e.id = d.id) :=
        And.intro (put_own_devicesOk ok entry same) (put_frame (s.messageTaken a).devices i x)
      refine ⟨fun kind => ⟨_, exec_alive next kind, ?_⟩, fun kind => ⟨_, exec_repeatRows next kind, ?_⟩,
        fun kind => ⟨_, exec_leave next kind, ?_⟩⟩
      · rw [takeAlive_of_entry acts own]
        exact ⟨entered (by rintro _ ⟨⟩; rfl), rfl⟩
      · rw [takeRepeat_of_entry acts own]
        exact ⟨entered (by rintro _ ⟨⟩; rfl), rfl⟩
      · rw [takeLeave_of_entry own]
        exact ⟨entered nofun, rfl⟩
  · refine (vmap_get _ s.devices.entries i).trans ?_
    cases s.devices.entries[i] with
    | none => rfl
    | some d => exact sweepEntry_some _ _ d

end Sys2Proof.Proofs
end

section
/-! PROOFS. The incident records: what a report does to a record and when it raises the notice reason, the sweep of the
count changed flags, and the statement about both and the acknowledge. -/

namespace Sys2Proof.Machine

/-! ### A notice reason, at its party -/

/-- Asking for a mirror write leaves the notices owed of its party as they are (R184). -/
theorem askMirrorWrite_noticesOwed (s : State) (p : Party) :
    ((s.askMirrorWrite p).party p).noticesOwed = (s.party p).noticesOwed := by
  unfold State.askMirrorWrite
  cases (s.party p).mirrorWrite <;> dsimp only
  cases s.offerResult p <;> simp <;> rfl

/-- After a notice reason notices are owed (R185). -/
theorem raiseReason_owed (s : State) (p : Party) : ((s.raiseReason p).party p).noticesOwed = true := by
  rw [State.raiseReason, askMirrorWrite_noticesOwed, updParty_party_same]

@[simp] theorem raiseReason_incident (s : State) (p q : Party) : (s.raiseReason p).incident q = s.incident q := by
  simp only [State.incident, raiseReason_incidents]

/-! ### A record after a report -/

/-- A report of this severity writes the record, and does not only set its overflow flag (R192). -/
def IncidentRecord.WrittenBy (r : IncidentRecord) (v : Severity) : Prop :=
  r.valid = false ∨ (r.severity = .minor ∧ v = .major)

theorem receive_of_written {r : IncidentRecord} {v : Severity} (written : r.WrittenBy v) (k : IncidentCode)
    (address : Option HostAddr) (ordinal : Option Nat) (position : Nat) :
    r.receive v k address ordinal position = r.write v k address ordinal position r.valid := by
  rcases written with clear | raised
  · simp [IncidentRecord.receive, clear]
  · cases valid : r.valid <;> simp [IncidentRecord.receive, valid, raised]

theorem receive_of_not_written {r : IncidentRecord} {v : Severity} (kept : ¬r.WrittenBy v) (k : IncidentCode)
    (address : Option HostAddr) (ordinal : Option Nat) (position : Nat) :
    r.receive v k address ordinal position = { r with overflow := true } := by
  obtain ⟨valid, lower⟩ := not_or.mp kept
  simp [IncidentRecord.receive, valid, lower]

@[simp] theorem receive_minorCount (r : IncidentRecord) (v : Severity) (k : IncidentCode)
    (address : Option HostAddr) (ordinal : Option Nat) (position : Nat) :
    (r.receive v k address ordinal position).minorCount = r.minorCount := by
  by_cases written : r.WrittenBy v
  · rw [receive_of_written written]; rfl
  · rw [receive_of_not_written written]

theorem countMinor_eq (r : IncidentRecord) (v : Severity) : r.countMinor v = { r with
    minorCount := if v = .minor ∧ r.minorCount < 65535 then r.minorCount + 1 else r.minorCount } := by
  unfold IncidentRecord.countMinor
  split <;> rfl

theorem countMinor_counts_iff (r : IncidentRecord) (v : Severity) :
    r.minorCount < (r.countMinor v).minorCount ↔ v = .minor ∧ r.minorCount < 65535 := by
  rw [countMinor_eq]
  dsimp only
  split <;> simp_all

theorem raisesReason_iff (r : IncidentRecord) (v : Severity) :
    r.raisesReason v = true ↔ r.WrittenBy v ∨ r.overflow = false := by
  simp [IncidentRecord.raisesReason, IncidentRecord.WrittenBy]

/-! ### A report -/

/-- The record of the party after a report: received, counted, and its count changed flag clear where the reason is
raised (R192, R193). -/
theorem report_incident_same (s : State) (p : Party) (v : Severity) (k : IncidentCode) (address : Option HostAddr)
    (ordinal : Option Nat) : (s.report p v k address ordinal).incident p =
      { ((s.incident p).receive v k address ordinal (s.partyPosition p)).countMinor v with
        countChanged := if (s.incident p).raisesReason v then false
          else (s.incident p).countChanged || decide (v = .minor ∧ (s.incident p).minorCount < 65535) } := by
  have counts := countMinor_counts_iff ((s.incident p).receive v k address ordinal (s.partyPosition p)) v
  rw [receive_minorCount] at counts
  unfold State.report
  dsimp only
  split
  · simp
  · simp only [setIncident_incident_same, counts]

theorem report_incident_other (s : State) {p q : Party} (v : Severity) (k : IncidentCode) (address : Option HostAddr)
    (ordinal : Option Nat) (h : q ≠ p) : (s.report p v k address ordinal).incident q = s.incident q := by
  unfold State.report
  dsimp only
  split <;> simp [setIncident_incident_other _ _ h]

theorem report_owed {s : State} {p : Party} {v : Severity} (raises : (s.incident p).raisesReason v = true)
    (k : IncidentCode) (address : Option HostAddr) (ordinal : Option Nat) :
    ((s.report p v k address ordinal).party p).noticesOwed = true := by
  simp only [State.report, raises, if_true]
  exact raiseReason_owed _ p

/-- A report that raises no reason changes the incident records alone (R193). -/
theorem report_silent_frame {s : State} {p : Party} {v : Severity} (silent : ¬(s.incident p).raisesReason v = true)
    (k : IncidentCode) (address : Option HostAddr) (ordinal : Option Nat) :
    s.report p v k address ordinal = { s with incidents := (s.report p v k address ordinal).incidents } := by
  simp only [State.report, if_neg silent]
  rfl

/-! ### The sweep -/

/-- What the sweep leaves at a party: the count changed flag clear, the reason raised where it was set, and the
party's exchange context as it was where it was clear (R194). -/
structure SweptAt (p : Party) (s t : State) : Prop where
  incident : t.incident p = { s.incident p with countChanged := false }
  raised : (s.incident p).countChanged = true →
    (t.party p).noticesOwed = true ∧ (t.party p).mirrorWrite ≠ .none
  still : (s.incident p).countChanged = false → t.party p = s.party p

theorem incidentSweepParty_swept (s : State) (p : Party) : SweptAt p s (s.incidentSweepParty p) := by
  unfold State.incidentSweepParty
  split
  · next changed =>
    exact ⟨by simp, fun _ => ⟨raiseReason_owed _ p, raiseReason_asked _ p⟩, fun clear => by simp [clear] at changed⟩
  · next clear =>
    rw [Bool.not_eq_true] at clear
    exact ⟨by rw [← clear], fun changed => by simp [changed] at clear, fun _ => rfl⟩

theorem incidentSweepParty_other (s : State) {p q : Party} (h : q ≠ p) :
    (s.incidentSweepParty p).incident q = s.incident q ∧ (s.incidentSweepParty p).party q = s.party q := by
  unfold State.incidentSweepParty
  split
  · simp [setIncident_incident_other _ _ h, raiseReason_party_other _ h]
  · exact ⟨rfl, rfl⟩

theorem incidentSweepParty_frame (s : State) (p : Party) : s.incidentSweepParty p = { s with
    fetch := (s.incidentSweepParty p).fetch
    exchange := (s.incidentSweepParty p).exchange
    incidents := (s.incidentSweepParty p).incidents } := by
  unfold State.incidentSweepParty
  split
  · rw [raiseReason_frame]; rfl
  · rfl

theorem foldl_incidentSweepParty_other {p : Party} : ∀ (ps : List Party) (s : State), p ∉ ps →
    (ps.foldl State.incidentSweepParty s).incident p = s.incident p
      ∧ (ps.foldl State.incidentSweepParty s).party p = s.party p
  | [], _, _ => ⟨rfl, rfl⟩
  | q :: ps, s, out => by
    obtain ⟨apart, rest⟩ := List.ne_and_not_mem_of_not_mem_cons out
    obtain ⟨incident, party⟩ := incidentSweepParty_other s apart
    obtain ⟨incidents, parties⟩ := foldl_incidentSweepParty_other ps (s.incidentSweepParty q) rest
    exact ⟨incidents.trans incident, parties.trans party⟩

/-- A sweep over parties, each at most once, sweeps each of them. -/
theorem foldl_incidentSweepParty_swept {p : Party} : ∀ (ps : List Party) (s : State), ps.Nodup → p ∈ ps →
    SweptAt p s (ps.foldl State.incidentSweepParty s)
  | q :: ps, s, once, among => by
    obtain ⟨out, once⟩ := List.nodup_cons.mp once
    by_cases h : p = q
    · subst h
      have now := incidentSweepParty_swept s p
      obtain ⟨incident, party⟩ := foldl_incidentSweepParty_other ps (s.incidentSweepParty p) out
      exact ⟨incident.trans now.incident, fun changed => party ▸ now.raised changed,
        fun clear => party.trans (now.still clear)⟩
    · obtain ⟨incident, party⟩ := incidentSweepParty_other s h
      have later := foldl_incidentSweepParty_swept ps (s.incidentSweepParty q) once
        ((List.mem_cons.mp among).resolve_left h)
      exact ⟨incident ▸ later.incident, fun changed => later.raised (incident ▸ changed),
        fun clear => (later.still (incident ▸ clear)).trans party⟩

/-- INCIDENT_SWEEP visits all seventeen parties, each once (R194). -/
theorem incidentSweep_swept (s : State) (p : Party) :
    SweptAt p s ((List.finRange 17).foldl State.incidentSweepParty s) :=
  foldl_incidentSweepParty_swept _ s (List.nodup_finRange 17) (List.mem_finRange p)

theorem foldl_incidentSweepParty_frame (ps : List Party) (s : State) :
    ps.foldl State.incidentSweepParty s = { s with
      fetch := (ps.foldl State.incidentSweepParty s).fetch
      exchange := (ps.foldl State.incidentSweepParty s).exchange
      incidents := (ps.foldl State.incidentSweepParty s).incidents } :=
  foldl_keeps (fun s t => t = { s with fetch := t.fetch, exchange := t.exchange, incidents := t.incidents })
    (fun _ => rfl) (fun h k => by rw [k, h]) _ incidentSweepParty_frame ps s

end Sys2Proof.Machine

namespace Sys2Proof.Proofs

open Sys2Proof.Machine

/-- Settles O48: whether a report writes the record decides what it comes to, whether it raises the reason decides the
rest; the sweep is a fold that treats each party once. -/
theorem incidentRecordsFollowReports : Obligations.IncidentRecordsFollowReports := by
  refine ⟨fun s p v k address ordinal => ?_, fun s p sequence => ⟨fun same valid => ?_, fun differs => ?_⟩,
    fun s => ⟨_, rfl, ?_⟩⟩
  · refine ⟨?_, fun written => ?_, fun kept => ?_, fun raises => ?_, fun kept overflowed => ?_,
      fun q h => report_incident_other s v k address ordinal h, by rw [report_frame], report_regs ..,
      report_devices .., report_pool ..⟩
    · simp [report_incident_same, countMinor_eq]
    · simp [report_incident_same, countMinor_eq, receive_of_written written, IncidentRecord.write]
    · simp [report_incident_same, countMinor_eq, receive_of_not_written kept]
    · have raises := (raisesReason_iff (s.incident p) v).mpr raises
      exact ⟨report_owed raises k address ordinal, by simp [report_incident_same, raises]⟩
    · have silent : ¬(s.incident p).raisesReason v = true := fun raises =>
        ((raisesReason_iff (s.incident p) v).mp raises).elim kept (by simp [overflowed])
      exact ⟨report_silent_frame silent k address ordinal, by simp [report_incident_same, silent]⟩
  · exact if_pos ⟨same, valid⟩
  · exact if_neg fun ⟨same, valid⟩ => differs.elim (· same) (by simp [valid])
  · have swept := incidentSweep_swept s
    exact ⟨fun p => (swept p).incident, fun p => (swept p).raised, fun p => (swept p).still,
      foldl_incidentSweepParty_frame _ s⟩

end Sys2Proof.Proofs
end
